-- ==== Sys2Proof/Word.lean ====
section
/-! DEFINITION. The words of the block: bytes, masks, event words, map words, slot numbers (00_scope.md R8: bit 0 is the least significant). -/

namespace Sys2Proof

/-- A slot, fragment or output byte (R7 `W_SLOT`). -/
abbrev Byte := BitVec 8

/-- A ButtonMask: bit value 1 means pressed (R47). -/
abbrev ButtonMask := BitVec 12

/-- An event word (R42). -/
abbrev EventWord := BitVec 16

/-- A word of a `MAP` listing (R48). -/
abbrev MapWord := BitVec 32

/-- An address of the table space, the same as a slot number (R31, R34). -/
abbrev Slot := Fin 8

end Sys2Proof
end

