-- ==== Sys2Proof/Config.lean ====
section
/-! DEFINITION. What is fixed before RESET and written by no event (10_state.md R28): map entries, the OPEN parameters as data, and the decided reset values of 00_scope.md R7. -/

namespace Sys2Proof

/-- The behaviour flag of a MappingEntry (R48): `None`, `Turbo`, `TurboSpeedSelect`. -/
inductive EntryFlag where
  | plain
  | turbo
  | speedSelect
deriving DecidableEq, Repr

/-- A MappingEntry (R57): a button bit index, the three fragment bytes and the flag. -/
structure MapEntry where
  btn : BitVec 4
  low : Byte
  high : Byte
  extra : Byte
  flag : EntryFlag
deriving DecidableEq, Repr

/-- The OPEN parameters of R7 but `MAP` (which State holds beside them, since map words install it) and `Q` (which no rule reads; log entry 12). -/
structure Params where
  nPollTimeout : Nat
  nSelfPeriod : Nat
  outRefreshOnPublish : Bool
deriving DecidableEq, Repr

/-- R7: both counts are integers of at least 1. -/
abbrev Params.ok (p : Params) : Prop := 1 ≤ p.nPollTimeout ∧ 1 ≤ p.nSelfPeriod

/-- The larger of the two counts, which `wait_ctr` never exceeds (R19). -/
def Params.waitMax (p : Params) : Nat := max p.nPollTimeout p.nSelfPeriod

/-- `W_WAIT` (R7): the smallest `w` with `2 ^ w > max(N_POLL_TIMEOUT, N_SELF_PERIOD)`. -/
def Params.waitWidth (p : Params) : Nat := p.waitMax.log2 + 1

/-- `T_RESET` (R7, decided by D21; log entry 7). -/
def Config.tReset : Slot → Byte
  | 0 => 0xFF
  | 1 => 0xF3
  | 2 => 0xFF
  | 3 => 0xF3
  | 4 => 0xFF
  | 5 => 0xF3
  | 6 => 0xFF
  | 7 => 0xF3

/-- `OUT_RESET` (R7, decided by D21; log entry 7). -/
def Config.outReset : Byte := 0xFF

/-- DESIGN CHOICE (log entry 5): the OPEN parameters at `State.reset`, with the values the spec's test vectors use. No statement rests on them. -/
def Config.params : Params := { nPollTimeout := 3, nSelfPeriod := 2, outRefreshOnPublish := false }

/-- DESIGN CHOICE (log entry 6): the `MAP` at `State.reset`, the one entry the source fixes (R58). No statement rests on it. -/
def Config.map : List MapEntry := [{ btn := 8, low := 0x02, high := 0x00, extra := 0x00, flag := .plain }]

end Sys2Proof
end

