-- ==== Sys2Proof/Machine/State.lean ====
section
/-! DEFINITION. The state record of 10_state.md R11 with the configuration and the two input streams beside it, the stops, and the state after RESET (70_reset_and_hazards.md R111). -/

namespace Sys2Proof.Machine

/-- The table space (R31): the slots that differ from `T_RESET`, as address and byte in one canonical form (`Memory.wf`). -/
abbrev Memory := List Host.Cell

/-- PollingState (R18). -/
inductive PollState where
  | selfTimed
  | hostPolled
deriving DecidableEq, Repr

/-- Where FG is in its loop (R19). -/
inductive FgPhase where
  | compute
  | wait
deriving DecidableEq, Repr

/-- ModeState (R26): `c3` is ThreeButtonCompat, `s6` is SixButtonNative. -/
inductive Mode where
  | c3
  | s6
deriving DecidableEq, Repr

/-- The record of R11, then the configuration (R28, R31), then the model's own fields (log entries 1 and 3). -/
structure State where
  /-- `OUT` (R14). -/
  out : Byte
  /-- `T[0..7]` (R15). -/
  table : Memory
  /-- `cycle_idx` (R16): 3 bits. -/
  cycleIdx : Fin 8
  /-- `polled` (R17). -/
  polled : Bool
  /-- `poll_state` (R18). -/
  pollState : PollState
  /-- `fg_phase` (R19). -/
  fgPhase : FgPhase
  /-- `wait_ctr` (R19): a count; the invariant bounds it by its width `W_WAIT` (log entry 9). -/
  waitCtr : Nat
  /-- `speed` (R20): 0..5 are its only values (log entry 8). -/
  speed : Fin 6
  /-- `phase` (R21). -/
  phase : Bool
  /-- `countdown` (R22): 0..4 (log entry 8). -/
  countdown : Fin 5
  /-- `ignore_gate` (R23). -/
  ignoreGate : Bool
  /-- `prev_mask` (R24). -/
  prevMask : ButtonMask
  /-- `first_sample` (R25). -/
  firstSample : Bool
  /-- `po_latch` (R25). -/
  poLatch : Bool
  /-- `mode` (R26). -/
  mode : Mode
  /-- The OPEN parameters of R7, written by nothing (R28). -/
  cfg : Params
  /-- `MAP` (R57), written by no event (R28). -/
  map : List MapEntry
  /-- The model's own: the entries of the listing being read, or none where the configuration is fixed (R112; log entry 3). -/
  listing : Option (List MapEntry)
  /-- The model's own: the words of the `MAP` listing not read yet, oldest first (log entry 1). -/
  mapWords : List MapWord
  /-- The model's own: the event words not taken yet, oldest first (log entry 1). -/
  events : List EventWord
deriving DecidableEq, Repr

/-- R99: the block raises no exception and has no fault state, so there is no fault to name (log entry 16). -/
inductive Fault where
deriving DecidableEq, Repr

/-- The model gives the input no meaning (R10, R100): a refusal is no behaviour of the block. Each is safe: no claim about a next state can be proved of a refused input. -/
inductive Refusal where
  /-- An instruction without a meaning yet; no arm of `exec` answers it. Safe. -/
  | notModelled (mnemonic : String)
  /-- `ReservedEvent` (R46), raised by `step` for an event word outside the encoding. Safe. -/
  | reservedEvent
  /-- `BadMapEntry` (R49), raised by `step` for a map word that does not decode, and by an entry word's meaning for `btn ≥ 12`. Safe. -/
  | badMapEntry
  /-- `BadMap` (R58), raised by `MAPEND` for a listing that fails constraint (b). Safe. -/
  | badMap
deriving DecidableEq, Repr

/-- The state right after `RESET` (R111), with nothing placed in the input streams. The record's values are the spec's; the configuration's are the model's choice (log entries 5 and 6). -/
def State.reset : State where
  out := Config.outReset
  table := []
  cycleIdx := 0
  polled := false
  pollState := .selfTimed
  fgPhase := .compute
  waitCtr := 0
  speed := 0
  phase := false
  countdown := 0
  ignoreGate := true
  prevMask := 0
  firstSample := true
  poLatch := false
  mode := .c3
  cfg := Config.params
  map := Config.map
  listing := none
  mapWords := []
  events := []

end Sys2Proof.Machine
end

