-- ==== Sys2Proof/Machine/Ops.lean ====
section
/-! DEFINITION. The named operations over the table space and the output register (20_memory.md R31 to R35). No operation takes an exception or returns from one: the block has none (60_exceptions.md R99, R103, R104). -/

namespace Sys2Proof.Machine

/-- The addresses of the table space, lowest first (R31). -/
def slots : List Slot := [0, 1, 2, 3, 4, 5, 6, 7]

/-- `MemRead(i, 1)` (R31): an unlisted slot reads as `T_RESET` (log entry 7). -/
def Memory.read (m : Memory) (i : Slot) : Byte := (List.lookup i.val m).getD (Config.tReset i)

/-- The canonical form of a table whose slots hold `p`. -/
def Memory.ofSlots (p : Slot → Byte) : Memory :=
  slots.filterMap fun i => if p i = Config.tReset i then none else some (i.val, p i)

/-- A cell that may be listed: its address exists and its byte differs from what the slot reads unlisted. -/
def Memory.cellOk (c : Host.Cell) : Bool :=
  if h : c.1 < 8 then decide (c.2 ≠ Config.tReset ⟨c.1, h⟩) else false

/-- The canonical form: addresses strictly rising, every cell one that may be listed. -/
def Memory.wf (m : Memory) : Bool :=
  decide (m.Pairwise fun a b => a.1 < b.1) && m.all Memory.cellOk

/-- PUBLISH (R72): all eight slots at once; `OUT` too where `OUT_REFRESH_ON_PUBLISH` is set (R96). -/
def publish (p8 : Slot → Byte) (s : State) : State :=
  { s with
    table := Memory.ofSlots p8
    out := if s.cfg.outRefreshOnPublish then p8 s.cycleIdx else s.out }

/-- The dispatcher's step (R76): advance the index, drive that slot, set `polled`. -/
def driveNextSlot (s : State) : State :=
  { s with
    cycleIdx := s.cycleIdx + 1
    out := s.table.read (s.cycleIdx + 1)
    polled := true }

end Sys2Proof.Machine
end

