-- ==== Sys2Proof/Machine/Operands.lean ====
section
/-! DEFINITION. The operand forms: the sampled mask and its bits (30_encoding.md R47, 40_input_interface.md R53) and the fragments (41_button_mapper.md R60). -/

namespace Sys2Proof.Machine

/-- SAMPLE (R53): the iteration's sample is the `mask` field of its `CLK`. -/
def sample (mask : ButtonMask) : ButtonMask := mask

/-- `m[btn]` (R8). -/
def pressed (m : ButtonMask) (btn : BitVec 4) : Bool := m.getLsbD btn.toNat

/-- The bit of the Mode button (R47). -/
abbrev modeButton : BitVec 4 := 2

/-- The bit of button A (R47). -/
abbrev buttonA : BitVec 4 := 8

/-- The three fragments; a 1 bit means "pull this wire low" (R50). -/
structure Fragments where
  low : Byte
  high : Byte
  extra : Byte
deriving DecidableEq, Repr

/-- No wire pulled low. -/
def Fragments.zero : Fragments := { low := 0, high := 0, extra := 0 }

/-- The fragments of one entry. -/
def Fragments.ofEntry (e : MapEntry) : Fragments := { low := e.low, high := e.high, extra := e.extra }

/-- Bitwise OR in each fragment (R60). -/
def Fragments.or (f g : Fragments) : Fragments :=
  { low := f.low ||| g.low, high := f.high ||| g.high, extra := f.extra ||| g.extra }

end Sys2Proof.Machine
end

