-- ==== Sys2Proof/Machine/Flags.lean ====
section
/-! DEFINITION. The one-bit status state (10_state.md R29) as it is updated inside a `CLK` step. The block has no arithmetic condition codes. `phase` is in Turbo.lean and the set of `polled` in Ops.lean. -/

namespace Sys2Proof.Machine

/-- GATE_UPDATE (R59): the first all-released sample clears the gate. -/
def gateUpdate (m : ButtonMask) (s : State) : State :=
  { s with ignoreGate := s.ignoreGate && decide (m ≠ 0) }

/-- PO_LATCH (R88): the first sample of the session sets the latch from the raw Mode bit. -/
def latchPowerOn (m : ButtonMask) (s : State) : State :=
  { s with
    poLatch := if s.firstSample then pressed m modeButton else s.poLatch
    firstSample := false }

/-- The clear half of the test-and-clear of `polled` (R38). -/
def consumePolled (s : State) : State := { s with polled := false }

end Sys2Proof.Machine
end

