-- ==== Sys2Proof/Syntax.lean ====
section
/-! DEFINITION. The input words as syntax: one constructor per row of spec/opcode_table.json. -/

namespace Sys2Proof

/-- The three events (R42 to R45) and the four words of a `MAP` listing (R48, R49). -/
inductive Instr where
  /-- `CLK <mask>, <sw>` (R43). -/
  | clk (mask : ButtonMask) (sw : Bool)
  /-- `SEL_EDGE <L>` (R44): the level of SELECT after the edge. -/
  | selEdge (level : Bool)
  /-- `RESET` (R45). -/
  | reset
  /-- `MAPENT` with flag `None` (R48). -/
  | mapentNone (btn : BitVec 4) (low high extra : Byte)
  /-- `MAPENT` with flag `Turbo` (R48). -/
  | mapentTurbo (btn : BitVec 4) (low high extra : Byte)
  /-- `MAPENT` with flag `TurboSpeedSelect` (R48). -/
  | mapentSpeedsel (btn : BitVec 4) (low high extra : Byte)
  /-- `MAPEND`, the sentinel (R49). -/
  | mapend
deriving DecidableEq, Repr

/-- The event stream holds these; the `MAP` listing holds the others (R52). -/
def Instr.isEvent : Instr → Bool
  | .clk _ _ => true
  | .selEdge _ => true
  | .reset => true
  | .mapentNone _ _ _ _ => false
  | .mapentTurbo _ _ _ _ => false
  | .mapentSpeedsel _ _ _ _ => false
  | .mapend => false

/-- A `MAPENT` word of an entry, by its flag (R48). -/
def Instr.ofEntry (e : MapEntry) : Instr :=
  match e.flag with
  | .plain => .mapentNone e.btn e.low e.high e.extra
  | .turbo => .mapentTurbo e.btn e.low e.high e.extra
  | .speedSelect => .mapentSpeedsel e.btn e.low e.high e.extra

end Sys2Proof
end

