-- ==== Sys2Proof/WellFormed.lean ====
section
/-! DEFINITION. Which input words the spec gives a meaning: a button index is 0..11 (30_encoding.md R48, R49). -/

namespace Sys2Proof

/-- R49: `btn ≥ 12` is refused. -/
def btnOk (b : BitVec 4) : Bool := decide (b.toNat < 12)

/-- An entry that decodes under R49. -/
def MapEntry.ok (e : MapEntry) : Bool := btnOk e.btn

/-- The fields of an instruction that its types leave open are in range. -/
def Instr.wf : Instr → Bool
  | .clk _ _ => true
  | .selEdge _ => true
  | .reset => true
  | .mapentNone b _ _ _ => btnOk b
  | .mapentTurbo b _ _ _ => btnOk b
  | .mapentSpeedsel b _ _ _ => btnOk b
  | .mapend => true

end Sys2Proof
end

