-- ==== Sys2Proof/Machine/Mapper.lean ====
section
/-! DEFINITION. ButtonMapper (41_button_mapper.md): BUILD_FRAGMENTS, SPEED_EDGE and the check of a `MAP`. -/

namespace Sys2Proof.Machine

/-- R60: an entry is ORed in if its button is pressed and the gate is open, and, for a Turbo entry, the phase is true. -/
def contributes (m : ButtonMask) (gate phase : Bool) (e : MapEntry) : Bool :=
  pressed m e.btn && !gate && (decide (e.flag ≠ .turbo) || phase)

/-- BUILD_FRAGMENTS (R60). -/
def buildFragments (m : ButtonMask) (gate phase : Bool) (map : List MapEntry) : Fragments :=
  map.foldl (fun f e => if contributes m gate phase e then f.or (.ofEntry e) else f) .zero

/-- SPEED_EDGE (R61): some TurboSpeedSelect button goes from 0 to 1. The gate is not read. -/
def speedEdge (m prev : ButtonMask) (map : List MapEntry) : Bool :=
  map.any fun e => decide (e.flag = .speedSelect) && !pressed prev e.btn && pressed m e.btn

/-- The write of SPEED_EDGE (R61). -/
def recordMask (m : ButtonMask) (s : State) : State := { s with prevMask := m }

/-- The OR of the fragments of the entries of a list. -/
def orAll (es : List MapEntry) : Fragments := es.foldl (fun f e => f.or (.ofEntry e)) .zero

/-- What button A's entries must OR to (R58). -/
def fragmentsOfA : Fragments := { low := 0x02, high := 0x00, extra := 0x00 }

/-- R58: every entry decodes, and A's entries OR to the source's value both without and with the Turbo entries. -/
def mapOk (es : List MapEntry) : Bool :=
  es.all MapEntry.ok
    && decide (orAll (es.filter fun e => decide (e.btn = buttonA ∧ e.flag ≠ .turbo)) = fragmentsOfA)
    && decide (orAll (es.filter fun e => decide (e.btn = buttonA)) = fragmentsOfA)

end Sys2Proof.Machine
end

