-- ==== Sys2Proof/Machine/Turbo.lean ====
section
/-! DEFINITION. TurboEngine (42_turbo_engine.md): DIV, SPEED_ADVANCE, TICK. -/

namespace Sys2Proof.Machine

/-- `DIV(speed)` (R64). -/
def div : Fin 6 → Fin 5
  | 0 => 2
  | 1 => 2
  | 2 => 3
  | 3 => 3
  | 4 => 4
  | 5 => 4

/-- SPEED_ADVANCE (R65): one step modulo 6. -/
def speedAdvance (edge : Bool) (s : State) : State :=
  { s with speed := if edge then s.speed + 1 else s.speed }

/-- TICK (R66): at 1 or 0 reload and flip, else count down. -/
def tick (s : State) : State :=
  { s with
    countdown := if s.countdown ≤ 1 then div s.speed else s.countdown - 1
    phase := if s.countdown ≤ 1 then !s.phase else s.phase }

end Sys2Proof.Machine
end

