-- ==== Sys2Proof/Machine/Frame.lean ====
section
/-! DEFINITION. OutputFrameBuilder (43_frame_builder.md): FRAME in both modes and INVERT. PUBLISH is in Ops.lean. -/

namespace Sys2Proof.Machine

/-- `M_C3` (R75). -/
def maskC3 : Byte := 0x0c

/-- `M_S5` (R75). -/
def maskS5 : Byte := 0x3c

/-- `M_S7` (R75). -/
def maskS7 : Byte := 0x03

/-- FRAME in C3 (R69). -/
def frameC3 (f : Fragments) : Slot → Byte
  | 0 => f.high
  | 1 => f.low ||| maskC3
  | 2 => f.high
  | 3 => f.low ||| maskC3
  | 4 => f.high
  | 5 => f.low ||| maskC3
  | 6 => f.high
  | 7 => f.low ||| maskC3

/-- FRAME in S6 (R70). -/
def frameS6 (f : Fragments) : Slot → Byte
  | 0 => f.high
  | 1 => f.low ||| maskC3
  | 2 => f.high
  | 3 => f.low ||| maskC3
  | 4 => f.high
  | 5 => f.low ||| maskS5
  | 6 => f.extra
  | 7 => f.high &&& maskS7

/-- FRAME by the mode (R69, R70). -/
def frame (mode : Mode) (f : Fragments) : Slot → Byte :=
  match mode with
  | .c3 => frameC3 f
  | .s6 => frameS6 f

/-- INVERT (R71). -/
def invert (p : Slot → Byte) : Slot → Byte := fun i => ~~~ (p i)

/-- The source's `build` (R73): the table to publish, as a function of the fragments and the mode alone. -/
def build (mode : Mode) (f : Fragments) : Slot → Byte := invert (frame mode f)

end Sys2Proof.Machine
end

