-- ==== Sys2Proof/Machine/ModeLatch.lean ====
section
/-! DEFINITION. ModeLatch (46_mode_latch.md): MODE_SELECT. PO_LATCH is in Flags.lean. -/

namespace Sys2Proof.Machine

/-- MODE_SELECT (R89): compatibility is forced by the latch or the switch. -/
def modeSelect (sw : Bool) (s : State) : State :=
  { s with mode := if s.poLatch || sw then .c3 else .s6 }

end Sys2Proof.Machine
end

