-- ==== Sys2Proof/Machine/Polling.lean ====
section
/-! DEFINITION. PollingModeDetector (45_polling_detector.md): its transitions and the WAIT step that calls them. -/

namespace Sys2Proof.Machine

/-- POLL_SEEN (R83). -/
def pollSeen (s : State) : State :=
  { consumePolled s with pollState := .hostPolled, fgPhase := .compute }

/-- POLL_TIMEOUT (R84). -/
def pollTimeout (s : State) : State := { s with pollState := .selfTimed, fgPhase := .compute }

/-- SELF_PERIOD (R85). -/
def selfPeriod (s : State) : State := { s with fgPhase := .compute }

/-- One more quantum spent in the wait (R95). -/
def countQuantum (s : State) : State := { s with waitCtr := s.waitCtr + 1 }

/-- The count at which a wait in the given state ends (R84, R85). -/
def waitLimit (cfg : Params) : PollState → Nat
  | .selfTimed => cfg.nSelfPeriod
  | .hostPolled => cfg.nPollTimeout

/-- The end of a wait whose count has reached its limit (R84, R85). -/
def endWait (s : State) : State :=
  match s.pollState with
  | .selfTimed => selfPeriod s
  | .hostPolled => pollTimeout s

/-- WAIT_STEP (R95): the flag comes before the counter. -/
def waitStep (s : State) : State :=
  if s.polled then pollSeen s
  else if s.waitCtr + 1 = waitLimit s.cfg s.pollState then endWait (countQuantum s)
  else countQuantum s

end Sys2Proof.Machine
end

