-- ==== Sys2Proof/Machine/Foreground.lean ====
section
/-! DEFINITION. The foreground sequencer (47_foreground_sequencer.md): ITERATE and the meaning of `CLK`. -/

namespace Sys2Proof.Machine

/-- FG enters its wait with the counter at 0 (R94, last line). -/
def enterWait (s : State) : State := { s with fgPhase := .wait, waitCtr := 0 }

/-- The latch, mode and gate steps of R94, which come before the build. -/
def takeSample (m : ButtonMask) (sw : Bool) (s : State) : State :=
  gateUpdate m (modeSelect sw (latchPowerOn m s))

/-- The fragments the build of an iteration reads, from the state after `takeSample`: the gate is the updated one, the phase the one before this iteration's TICK (R94). -/
def sampleFragments (m : ButtonMask) (s : State) : Fragments :=
  buildFragments m s.ignoreGate s.phase s.map

/-- The frame and publish steps of R94, with the fragments built before them. -/
def publishTable (f : Fragments) (s : State) : State := publish (build s.mode f) s

/-- The turbo steps of R94: the speed first, then the tick with the new speed. -/
def advanceTurbo (edge : Bool) (s : State) : State := tick (speedAdvance edge s)

/-- ITERATE (R94), in its order; the fragments and the speed edge are values local to it. -/
def iterate (mask : ButtonMask) (sw : Bool) (s : State) : State :=
  let m := sample mask
  let sampled := takeSample m sw s
  let fragments := sampleFragments m sampled
  let edge := speedEdge m sampled.prevMask sampled.map
  enterWait (advanceTurbo edge (publishTable fragments (recordMask m sampled)))

/-- `CLK` (R93). -/
def execClk (mask : ButtonMask) (sw : Bool) (s : State) : Host.Outcome State Fault Refusal :=
  match s.fgPhase with
  | .compute => .next (iterate mask sw s)
  | .wait => .next (waitStep s)

end Sys2Proof.Machine
end

