-- ==== Sys2Proof/Machine/Dispatcher.lean ====
section
/-! DEFINITION. SelectEdgeDispatcher (44_select_dispatcher.md): the meaning of `SEL_EDGE`. -/

namespace Sys2Proof.Machine

/-- `SEL_EDGE` (R76): the level is not read (R77). -/
def execSelEdge (_level : Bool) (s : State) : Host.Outcome State Fault Refusal := .next (driveNextSlot s)

end Sys2Proof.Machine
end

