-- ==== Sys2Proof/Machine/Session.lean ====
section
/-! DEFINITION. The meaning of `RESET` (70_reset_and_hazards.md R111). -/

namespace Sys2Proof.Machine

/-- A new session (R111): every field of the record; the configuration and the input streams stay. -/
def startSession (s : State) : State :=
  { s with
    out := Config.outReset
    table := Memory.ofSlots Config.tReset
    cycleIdx := 0
    polled := false
    pollState := .selfTimed
    fgPhase := .compute
    waitCtr := 0
    speed := 0
    phase := false
    countdown := 0
    ignoreGate := true
    prevMask := 0
    firstSample := true
    poLatch := false
    mode := .c3 }

/-- `RESET` (R111). -/
def execReset (s : State) : Host.Outcome State Fault Refusal := .next (startSession s)

end Sys2Proof.Machine
end

