-- ==== Sys2Proof/Machine/MapListing.lean ====
section
/-! DEFINITION. The meanings of the words of a `MAP` listing (30_encoding.md R48, R49; 41_button_mapper.md R57, R58). Log entries 3, 4 and 11. -/

namespace Sys2Proof.Machine

/-- An entry word extends the listing being read. After the sentinel it is no entry of the list (R49), so nothing changes. -/
def addEntry (e : MapEntry) (s : State) : Host.Outcome State Fault Refusal :=
  if e.ok then .next { s with listing := s.listing.map fun es => es ++ [e] }
  else .refused .badMapEntry

/-- `MAPENT` with flag `None`. -/
def execMapentNone (btn : BitVec 4) (low high extra : Byte) (s : State) : Host.Outcome State Fault Refusal :=
  addEntry { btn := btn, low := low, high := high, extra := extra, flag := .plain } s

/-- `MAPENT` with flag `Turbo`. -/
def execMapentTurbo (btn : BitVec 4) (low high extra : Byte) (s : State) : Host.Outcome State Fault Refusal :=
  addEntry { btn := btn, low := low, high := high, extra := extra, flag := .turbo } s

/-- `MAPENT` with flag `TurboSpeedSelect`. -/
def execMapentSpeedsel (btn : BitVec 4) (low high extra : Byte) (s : State) : Host.Outcome State Fault Refusal :=
  addEntry { btn := btn, low := low, high := high, extra := extra, flag := .speedSelect } s

/-- `MAPEND`: the first sentinel ends the listing; its entries become `MAP` if they pass R58. A later sentinel ends nothing. -/
def execMapend (s : State) : Host.Outcome State Fault Refusal :=
  match s.listing with
  | some es => if mapOk es then .next { s with map := es, listing := none } else .refused .badMap
  | none => .next s

end Sys2Proof.Machine
end

