-- ==== Sys2Proof/Machine/Dispatch.lean ====
section
/-! DEFINITION. One arm per constructor of Instr, each one direct call of its meaning. -/

namespace Sys2Proof.Machine

def exec (i : Instr) (s : State) : Host.Outcome State Fault Refusal :=
  match i with
  | .clk mask sw => Sys2Proof.Machine.execClk mask sw s
  | .selEdge level => Sys2Proof.Machine.execSelEdge level s
  | .reset => Sys2Proof.Machine.execReset s
  | .mapentNone btn low high extra => Sys2Proof.Machine.execMapentNone btn low high extra s
  | .mapentTurbo btn low high extra => Sys2Proof.Machine.execMapentTurbo btn low high extra s
  | .mapentSpeedsel btn low high extra => Sys2Proof.Machine.execMapentSpeedsel btn low high extra s
  | .mapend => Sys2Proof.Machine.execMapend s

end Sys2Proof.Machine
end

