-- ==== Sys2Proof/Decode.lean ====
section
/-! DEFINITION. The decoder of both word kinds, total and rejecting by name (30_encoding.md R42 to R49), then the encoder written from the same layouts. -/

namespace Sys2Proof

/-- A word with the stream it comes from, which is how a decoder tells the two kinds apart (R52). -/
inductive InputWord where
  | event (w : EventWord)
  | map (w : MapWord)
deriving DecidableEq, Repr

/-- Why a word is refused (R100). -/
inductive Reject where
  | reservedEvent
  | badMapEntry
deriving DecidableEq, Repr

/-- R42 to R46: the match and mask of each event; any other word is reserved. -/
def decodeEvent (w : EventWord) : Except Reject Instr :=
  if w &&& 0xE000 = 0x0000 then .ok (.clk (w.extractLsb' 0 12) (w.getLsbD 12))
  else if w &&& 0xFFFE = 0x4000 then .ok (.selEdge (w.getLsbD 0))
  else if w = 0x8000 then .ok .reset
  else .error .reservedEvent

/-- R48, R49: the sentinel, else an entry with bits [31:30] zero, `btn` below 12 and a flag that is not `11`. -/
def decodeMap (w : MapWord) : Except Reject Instr :=
  let flag := w.extractLsb' 28 2
  let btn := w.extractLsb' 24 4
  let extra := w.extractLsb' 16 8
  let high := w.extractLsb' 8 8
  let low := w.extractLsb' 0 8
  if w = 0xFFFFFFFF then .ok .mapend
  else if w.extractLsb' 30 2 ≠ 0 ∨ 12 ≤ btn.toNat then .error .badMapEntry
  else if flag = 0 then .ok (.mapentNone btn low high extra)
  else if flag = 1 then .ok (.mapentTurbo btn low high extra)
  else if flag = 2 then .ok (.mapentSpeedsel btn low high extra)
  else .error .badMapEntry

/-- Every word of either stream has an instruction or a named refusal. -/
def decode : InputWord → Except Reject Instr
  | .event w => decodeEvent w
  | .map w => decodeMap w

/-- R48: each field at its place; bits [31:30] stay `00`. -/
def entryWord (flag : BitVec 2) (btn : BitVec 4) (low high extra : Byte) : MapWord :=
  (flag.setWidth 32 <<< 28) ||| (btn.setWidth 32 <<< 24) ||| (extra.setWidth 32 <<< 16) |||
    (high.setWidth 32 <<< 8) ||| low.setWidth 32

/-- R43, R51: `(sw << 12) | mask`. -/
def clkWord (mask : ButtonMask) (sw : Bool) : EventWord :=
  ((BitVec.ofBool sw).setWidth 16 <<< 12) ||| mask.setWidth 16

/-- R44, R51: `0x4000 | L`. -/
def selEdgeWord (level : Bool) : EventWord := 0x4000 ||| (BitVec.ofBool level).setWidth 16

/-- The word of an instruction, in its stream (R43 to R45, R48, R49). -/
def encode : Instr → InputWord
  | .clk mask sw => .event (clkWord mask sw)
  | .selEdge level => .event (selEdgeWord level)
  | .reset => .event 0x8000
  | .mapentNone b low high extra => .map (entryWord 0 b low high extra)
  | .mapentTurbo b low high extra => .map (entryWord 1 b low high extra)
  | .mapentSpeedsel b low high extra => .map (entryWord 2 b low high extra)
  | .mapend => .map 0xFFFFFFFF

/-- The event word of an instruction; a map word has none, and the value 0 stands there (used on events only). -/
def eventWordOf (i : Instr) : EventWord :=
  match encode i with
  | .event w => w
  | .map _ => 0

/-- The map word of an entry (R48). -/
def mapWordOf (e : MapEntry) : MapWord :=
  match encode (Instr.ofEntry e) with
  | .event _ => 0
  | .map w => w

/-- A number of the table's bits as an input word: rows of 16 bits are event words, rows of 32 bits are map words (log entry 10). -/
def tableInput (nbits w : Nat) : Option InputWord :=
  if nbits = 16 then if w < 2 ^ 16 then some (.event (BitVec.ofNat 16 w)) else none
  else if nbits = 32 then if w < 2 ^ 32 then some (.map (BitVec.ofNat 32 w)) else none
  else none

/-- The instruction the decoder reads from a row's bits, numbered as the opcode table numbers them. -/
def decodeTableWord (nbits w : Nat) : Option Instr :=
  match tableInput nbits w with
  | none => none
  | some iw =>
    match decode iw with
    | .ok i => some i
    | .error _ => none

end Sys2Proof
end

