-- ==== Sys2Proof/Machine/Fetch.lean ====
section
/-! DEFINITION. Taking the next input word (30_encoding.md R52, 70_reset_and_hazards.md R112) and placing one from outside. Log entries 1 to 3. -/

namespace Sys2Proof.Machine

/-- While a listing is open the next map word, else the next event word, with the state that has taken it; none where no word is waiting. -/
def fetch (s : State) : Option (InputWord × State) :=
  match s.listing with
  | some _ =>
    match s.mapWords with
    | [] => none
    | w :: ws => some (.map w, { s with mapWords := ws })
  | none =>
    match s.events with
    | [] => none
    | w :: ws => some (.event w, { s with events := ws })

/-- The refusal of a word that does not decode (R100). -/
def refusalOf : Reject → Refusal
  | .reservedEvent => .reservedEvent
  | .badMapEntry => .badMapEntry

/-- The environment puts a word at the head of its stream. An event word is taken only where no listing is open. Where none is open, a map word comes after a re-reading of the entries of the `MAP` in force, so that a sentinel there ends a complete listing (log entry 1). -/
def place (iw : InputWord) (s : State) : State :=
  match iw with
  | .event w => { s with listing := none, events := w :: s.events }
  | .map w => { s with listing := some (s.listing.getD s.map), mapWords := w :: s.mapWords }

end Sys2Proof.Machine
end

