-- ==== Sys2Proof/Machine/Step.lean ====
section
/-! DEFINITION. One step of the machine: take a word, decode it, execute it (00_scope.md R6, R10). -/

namespace Sys2Proof.Machine

/-- Where no word is waiting the block idles (log entry 2). -/
def step (s : State) : Host.Outcome State Fault Refusal :=
  match fetch s with
  | none => .next s
  | some (iw, t) =>
    match decode iw with
    | .ok i => exec i t
    | .error r => .refused (refusalOf r)

/-- The state in which the given table word is the next one `step` takes. -/
def State.withFetchWord (s : State) (nbits w : Nat) : State :=
  match tableInput nbits w with
  | some iw => place iw s
  | none => s

end Sys2Proof.Machine
end

