-- ==== Sys2Proof/Safety.lean ====
section
/-! DEFINITION. The terms statements are made in: sequences of input words run through exec, how many iterations a run holds, and the invariant of the machine. -/

namespace Sys2Proof

/-- The events inside a session: `CLK` and `SEL_EDGE` (`RESET` starts a new one, R111). -/
def Instr.inSession : Instr → Bool
  | .clk _ _ => true
  | .selEdge _ => true
  | .reset => false
  | .mapentNone _ _ _ _ => false
  | .mapentTurbo _ _ _ _ => false
  | .mapentSpeedsel _ _ _ _ => false
  | .mapend => false

/-- A `SEL_EDGE` event. -/
def Instr.isEdge : Instr → Bool
  | .clk _ _ => false
  | .selEdge _ => true
  | .reset => false
  | .mapentNone _ _ _ _ => false
  | .mapentTurbo _ _ _ _ => false
  | .mapentSpeedsel _ _ _ _ => false
  | .mapend => false

/-- A `CLK` event. -/
def Instr.isClk : Instr → Bool
  | .clk _ _ => true
  | .selEdge _ => false
  | .reset => false
  | .mapentNone _ _ _ _ => false
  | .mapentTurbo _ _ _ _ => false
  | .mapentSpeedsel _ _ _ _ => false
  | .mapend => false

namespace Machine

/-- The instructions of a list one after the other, stopping at the first stop (one total order of events, R36). -/
def runInstrs : List Instr → State → Host.Outcome State Fault Refusal
  | [], s => .next s
  | i :: is, s =>
    match exec i s with
    | .next t => runInstrs is t
    | .fault r => .fault r
    | .refused r => .refused r

/-- That many steps of the machine, stopping at the first stop. -/
def runSteps : Nat → State → Host.Outcome State Fault Refusal
  | 0, s => .next s
  | k + 1, s =>
    match step s with
    | .next t => runSteps k t
    | .fault r => .fault r
    | .refused r => .refused r

/-- `i` at `s` is an FG iteration: a `CLK` in COMPUTE (R94). -/
def iterates (i : Instr) (s : State) : Bool := i.isClk && decide (s.fgPhase = .compute)

/-- How many FG iterations a run of a list holds. -/
def iterations : List Instr → State → Nat
  | [], _ => 0
  | i :: is, s =>
    (if iterates i s then 1 else 0) +
      match exec i s with
      | .next t => iterations is t
      | .fault _ => 0
      | .refused _ => 0

/-- `i` at `s` is an FG iteration whose sample makes a speed edge (R61). -/
def makesSpeedEdge (i : Instr) (s : State) : Bool :=
  match i with
  | .clk m _ => decide (s.fgPhase = .compute) && speedEdge m s.prevMask s.map
  | .selEdge _ => false
  | .reset => false
  | .mapentNone _ _ _ _ => false
  | .mapentTurbo _ _ _ _ => false
  | .mapentSpeedsel _ _ _ _ => false
  | .mapend => false

/-- No iteration of a run of a list makes a speed edge. A TurboSpeedSelect button may be held, and the masks of the wait quanta are not read. -/
def NoSpeedEdge : List Instr → State → Prop
  | [], _ => True
  | i :: is, s => makesSpeedEdge i s = false ∧ ∀ t, exec i s = .next t → NoSpeedEdge is t

/-- The table of the given mode with every button released (R113). -/
def allReleased (mode : Mode) : Slot → Byte := build mode .zero

/-- The table is the `build` of some fragments in the given mode (R50, R73). -/
def Framed (mode : Mode) (m : Memory) : Prop := ∃ f : Fragments, ∀ i, m.read i = build mode f i

/-- The invariant of the machine: what the spec says holds of its registers and tables between steps. -/
structure Inv (s : State) : Prop where
  /-- R7: the counts are at least 1. -/
  params_ok : s.cfg.ok
  /-- R58: the map in force is well-formed. -/
  map_ok : mapOk s.map = true
  /-- R49: the entries of an open listing decode. -/
  listing_ok : ∀ es, s.listing = some es → es.all MapEntry.ok = true
  /-- The table space is in its canonical form. -/
  table_wf : s.table.wf = true
  /-- R15, R26: the published table is framed in the mode of the last iteration. -/
  table_framed : Framed s.mode s.table
  /-- R95: a wait ends at its limit, so inside one the count is below it. -/
  wait_below_limit : s.fgPhase = .wait → s.waitCtr < waitLimit s.cfg s.pollState
  /-- R19: the count never exceeds the larger limit. -/
  wait_bounded : s.waitCtr ≤ s.cfg.waitMax
  /-- R89: the power-on latch forces compatibility. -/
  latch_forces_compat : s.poLatch = true → s.mode = .c3
  /-- R25: before the first sample of a session FG has not iterated, so the gate is shut and the latch is clear. -/
  first_sample_fresh :
    s.firstSample = true → s.fgPhase = .compute ∧ s.ignoreGate = true ∧ s.poLatch = false ∧ s.prevMask = 0
  /-- R96: where publishes refresh `OUT`, it always shows the slot of the current index. -/
  refreshed_out : s.cfg.outRefreshOnPublish = true → s.out = s.table.read s.cycleIdx

end Machine

end Sys2Proof
end

