-- ==== Sys2Proof/Certificates/Slice0/Obligations.lean ====
section
/-! DEFINITION. The statements for the provers, one definition each, in the order of OBLIGATIONS.json. -/

open Sys2Proof Sys2Proof.Machine

/-! Encodings (30_encoding.md). -/

/-- Words written out bit by bit from the layouts of 30_encoding.md (vectors L2-E1 to L2-E6, L2-E11, map TM1) decode to what they stand for. -/
def Obligations.SpecWordsDecodeAsListed : Prop :=
  decode (.event 0b0000000000000000) = .ok (.clk 0 false) ∧
  decode (.event 0b0001000100000000) = .ok (.clk 0x100 true) ∧
  decode (.event 0b0000111111111111) = .ok (.clk 0xFFF false) ∧
  decode (.event 0b0100000000000001) = .ok (.selEdge true) ∧
  decode (.event 0b1000000000000000) = .ok .reset ∧
  decode (.map 0b00001000000000000000000000000010) = .ok (.mapentNone 8 0x02 0x00 0x00) ∧
  decode (.map 0b00011010000000000000000000000010) = .ok (.mapentTurbo 10 0x02 0x00 0x00) ∧
  decode (.map 0b00101011000100000000000000000000) = .ok (.mapentSpeedsel 11 0x00 0x00 0x10) ∧
  decode (.map 0b11111111111111111111111111111111) = .ok .mapend

/-- The words the decoder refuses as `ReservedEvent` are exactly those 30_encoding.md section 1 reserves (the spec's decision D32). -/
def Obligations.ReservedEventWordsAreExactlyThoseListed : Prop :=
  ∀ w : EventWord, decode (.event w) = .error .reservedEvent ↔
    (w.extractLsb' 14 2 = 3 ∨
     (w.extractLsb' 14 2 = 0 ∧ w.getLsbD 13 = true) ∨
     (w.extractLsb' 14 2 = 1 ∧ w.extractLsb' 1 13 ≠ 0) ∨
     (w.extractLsb' 14 2 = 2 ∧ w.extractLsb' 0 14 ≠ 0))

/-- The words the decoder refuses as `BadMapEntry` are exactly those 30_encoding.md section 3 lists (the spec's decisions D4, D32). -/
def Obligations.BadMapWordsAreExactlyThoseListed : Prop :=
  ∀ w : MapWord, decode (.map w) = .error .badMapEntry ↔
    (w ≠ 0xFFFFFFFF ∧
      (w.extractLsb' 30 2 ≠ 0 ∨ 12 ≤ (w.extractLsb' 24 4).toNat ∨ w.extractLsb' 28 2 = 3))

/-- Decoding the word of any well-formed instruction gives the instruction back, every operand at every value. -/
def Obligations.DecodeOfEncodeIsIdentity : Prop :=
  ∀ i : Instr, i.wf = true → decode (encode i) = .ok i

/-- A word that decodes is the word of the instruction it decodes to, and that instruction is well-formed: no bit of an accepted word is dropped. -/
def Obligations.AcceptedWordsAreEncodings : Prop :=
  ∀ (w : InputWord) (i : Instr), decode w = .ok i → encode i = w ∧ i.wf = true

/-! The step (00_scope.md section 4, 70_reset_and_hazards.md section 1). Which stream a word is taken from is the model's choice (log entries 1 and 3). -/

/-- Where the next word of the stream in use decodes to `i`, the step is `exec i` at the state that has taken the word; nothing else happens around it. -/
def Obligations.StepRunsTheDecodedInstruction : Prop :=
  (∀ (s : State) (w : EventWord) (ws : List EventWord) (i : Instr),
    s.listing = none → s.events = w :: ws → decode (.event w) = .ok i →
      step s = exec i { s with events := ws }) ∧
  (∀ (s : State) (es : List MapEntry) (w : MapWord) (ws : List MapWord) (i : Instr),
    s.listing = some es → s.mapWords = w :: ws → decode (.map w) = .ok i →
      step s = exec i { s with mapWords := ws })

/-- A word that does not decode is refused under its spec name (60_exceptions.md section 1). -/
def Obligations.StepRefusesWordsThatDoNotDecode : Prop :=
  (∀ (s : State) (w : EventWord) (ws : List EventWord),
    s.listing = none → s.events = w :: ws → decode (.event w) = .error .reservedEvent →
      step s = .refused .reservedEvent) ∧
  (∀ (s : State) (es : List MapEntry) (w : MapWord) (ws : List MapWord),
    s.listing = some es → s.mapWords = w :: ws → decode (.map w) = .error .badMapEntry →
      step s = .refused .badMapEntry)

/-- Running the word stream of a list of events step by step is running the events through `exec` (the model's streams, log entry 1). -/
def Obligations.EventStreamRunsItsInstructions : Prop :=
  ∀ (is : List Instr) (rest : List EventWord) (s : State),
    (∀ i ∈ is, i.isEvent = true) →
      runSteps is.length { s with listing := none, events := is.map eventWordOf ++ rest } =
        runInstrs is { s with listing := none, events := rest }

/-- Reading a `MAP` listing to its sentinel installs exactly its entries, in order, if they pass the map check, and refuses `BadMap` if not (log entry 3). -/
def Obligations.MapListingInstallsItsEntries : Prop :=
  ∀ (es : List MapEntry) (rest : List MapWord) (s : State),
    (∀ e ∈ es, e.ok = true) → s.listing = some [] →
      runSteps (es.length + 1) { s with mapWords := es.map mapWordOf ++ 0xFFFFFFFF :: rest } =
        if mapOk es then .next { s with map := es, listing := none, mapWords := rest }
        else .refused .badMap

/-- In every state an event has a next state; every step has a next state too, but where it refuses: a reserved event word, or, with a listing open, a map word that does not decode, or the sentinel of a listing that fails the map check. No other word is refused, and no step faults. -/
def Obligations.EveryEventHasANextState : Prop :=
  (∀ (i : Instr) (s : State), i.isEvent = true → ∃ t, exec i s = .next t) ∧
  (∀ s : State,
    (∃ t, step s = .next t) ∨
    (step s = .refused .reservedEvent ∧ s.listing = none ∧
      ∃ w ws, s.events = w :: ws ∧ decode (.event w) = .error .reservedEvent) ∨
    (∃ es w ws, s.listing = some es ∧ s.mapWords = w :: ws ∧
      ((step s = .refused .badMapEntry ∧ decode (.map w) = .error .badMapEntry) ∨
       (step s = .refused .badMap ∧ decode (.map w) = .ok .mapend ∧ mapOk es = false))))

/-! SEL_EDGE (44_select_dispatcher.md). -/

/-- R76: the index advances modulo 8, `OUT` takes the slot of the new index, `polled` is set, whatever the level. -/
def Obligations.SelEdgeAdvancesAndDrivesTheNextSlot : Prop :=
  ∀ (s : State) (level : Bool), ∃ t, exec (.selEdge level) s = .next t ∧
    t.cycleIdx.val = (s.cycleIdx.val + 1) % 8 ∧
    t.out = s.table.read t.cycleIdx ∧
    t.polled = true

/-- The frame of `SEL_EDGE`: all but `cycle_idx`, `OUT` and `polled` is unchanged, every slot of the table among it (10_state.md section 7). -/
def Obligations.SelEdgeLeavesAllElse : Prop :=
  ∀ (s t : State) (level : Bool), exec (.selEdge level) s = .next t →
    (∀ i, t.table.read i = s.table.read i) ∧ t.table = s.table ∧
    t.pollState = s.pollState ∧ t.fgPhase = s.fgPhase ∧ t.waitCtr = s.waitCtr ∧
    t.speed = s.speed ∧ t.phase = s.phase ∧ t.countdown = s.countdown ∧
    t.ignoreGate = s.ignoreGate ∧ t.prevMask = s.prevMask ∧ t.firstSample = s.firstSample ∧
    t.poLatch = s.poLatch ∧ t.mode = s.mode ∧ t.cfg = s.cfg ∧ t.map = s.map ∧
    t.listing = s.listing ∧ t.mapWords = s.mapWords ∧ t.events = s.events

/-- After `RESET` and any events of the session the index is the number of edges modulo 8, whatever `CLK` events come between (44_select_dispatcher.md, "After N SELECT edges from a reset state"). -/
def Obligations.CycleIndexCountsEdgesModuloEight : Prop :=
  ∀ (es : List Instr) (s : State), (∀ i ∈ es, i.inSession = true) →
    ∃ t, runInstrs (.reset :: es) s = .next t ∧ t.cycleIdx.val = es.countP Instr.isEdge % 8

/-- An edge ordered before a publishing `CLK` drives a slot of the old table, one ordered after it a slot of the new one; nothing else differs (20_memory.md section 3, decision D34). -/
def Obligations.EdgeReadsOldTableBeforeAndNewTableAfterAPublish : Prop :=
  ∀ (s : State) (level : Bool) (m : ButtonMask) (sw : Bool),
    s.fgPhase = .compute → s.cfg.outRefreshOnPublish = false →
    ∃ a b, runInstrs [.selEdge level, .clk m sw] s = .next a ∧
      runInstrs [.clk m sw, .selEdge level] s = .next b ∧
      a.out = s.table.read (s.cycleIdx + 1) ∧
      b.out = a.table.read (s.cycleIdx + 1) ∧
      b = { a with out := b.out }

/-- Any number of edges between two wait quanta set one flag, which the next wait quantum consumes (70_reset_and_hazards.md section 2, flag merging). -/
def Obligations.EdgesMergeIntoOneConsumedFlag : Prop :=
  ∀ (s : State) (edges : List Instr) (m : ButtonMask) (sw : Bool),
    edges ≠ [] → (∀ i ∈ edges, i.isEdge = true) → s.fgPhase = .wait →
    ∃ t, runInstrs (edges ++ [.clk m sw]) s = .next t ∧
      t.polled = false ∧ t.pollState = .hostPolled ∧ t.fgPhase = .compute ∧ t.waitCtr = s.waitCtr

/-! CLK in WAIT (45_polling_detector.md, 47_foreground_sequencer.md). -/

/-- A wait quantum that finds the flag clears it, enters HostPolled and ends the wait, from either state and whatever the count (the spec's decision D19). -/
def Obligations.FlagEndsAWait : Prop :=
  ∀ (s : State) (m : ButtonMask) (sw : Bool), s.fgPhase = .wait → s.polled = true →
    exec (.clk m sw) s = .next { s with polled := false, pollState := .hostPolled, fgPhase := .compute }

/-- R84: without the flag, the quantum that brings the count to `N_POLL_TIMEOUT` falls back to SelfTimed and ends the wait. -/
def Obligations.PollTimeoutFallsBackToSelfTimed : Prop :=
  ∀ (s : State) (m : ButtonMask) (sw : Bool), s.fgPhase = .wait → s.pollState = .hostPolled →
    s.polled = false → s.waitCtr + 1 = s.cfg.nPollTimeout →
    exec (.clk m sw) s =
      .next { s with pollState := .selfTimed, fgPhase := .compute, waitCtr := s.cfg.nPollTimeout }

/-- R85: without the flag, the quantum that brings the count to `N_SELF_PERIOD` ends a SelfTimed wait, and the state stays SelfTimed. -/
def Obligations.SelfPeriodEndsASelfTimedWait : Prop :=
  ∀ (s : State) (m : ButtonMask) (sw : Bool), s.fgPhase = .wait → s.pollState = .selfTimed →
    s.polled = false → s.waitCtr + 1 = s.cfg.nSelfPeriod →
    exec (.clk m sw) s = .next { s with fgPhase := .compute, waitCtr := s.cfg.nSelfPeriod }

/-- Without the flag and short of the limit of its state, a wait quantum only counts up: the limit of the other state does not apply (45_polling_detector.md, the state diagram's last row; the no-wrap count is log entry 9). -/
def Obligations.WaitCountsUpBelowItsLimit : Prop :=
  ∀ (s : State) (m : ButtonMask) (sw : Bool), s.fgPhase = .wait → s.polled = false →
    (s.pollState = .selfTimed → s.waitCtr + 1 ≠ s.cfg.nSelfPeriod) →
    (s.pollState = .hostPolled → s.waitCtr + 1 ≠ s.cfg.nPollTimeout) →
    exec (.clk m sw) s = .next { s with waitCtr := s.waitCtr + 1 }

/-- The frame of a `CLK` in WAIT, which also does not read its fields: every register but `polled`, `poll_state`, `fg_phase` and `wait_ctr`, and every slot of the table, is unchanged. -/
def Obligations.WaitLeavesAllElseAndIgnoresItsFields : Prop :=
  ∀ (s t : State) (m : ButtonMask) (sw : Bool), s.fgPhase = .wait → exec (.clk m sw) s = .next t →
    (∀ (m' : ButtonMask) (sw' : Bool), exec (.clk m' sw') s = .next t) ∧
    (∀ i, t.table.read i = s.table.read i) ∧ t.table = s.table ∧
    t.out = s.out ∧ t.cycleIdx = s.cycleIdx ∧
    t.speed = s.speed ∧ t.phase = s.phase ∧ t.countdown = s.countdown ∧
    t.ignoreGate = s.ignoreGate ∧ t.prevMask = s.prevMask ∧ t.firstSample = s.firstSample ∧
    t.poLatch = s.poLatch ∧ t.mode = s.mode ∧ t.cfg = s.cfg ∧ t.map = s.map ∧
    t.listing = s.listing ∧ t.mapWords = s.mapWords ∧ t.events = s.events

/-- Entering HostPolled with no further edge: HostPolled for `N_POLL_TIMEOUT` more `CLK` events, SelfTimed from the next one on and for ever (45_polling_detector.md, "reverts to SelfTimed exactly once after the timeout"). -/
def Obligations.SilenceRevertsToSelfTimedExactlyOnce : Prop :=
  ∀ (s : State) (clks : List Instr),
    s.pollState = .hostPolled → s.fgPhase = .compute → s.polled = false → 1 ≤ s.cfg.nPollTimeout →
    (∀ i ∈ clks, i.isClk = true) →
    ∃ t, runInstrs clks s = .next t ∧ t.polled = false ∧
      (clks.length ≤ s.cfg.nPollTimeout → t.pollState = .hostPolled) ∧
      (s.cfg.nPollTimeout + 1 ≤ clks.length → t.pollState = .selfTimed)

/-- In SelfTimed with no edge, iterations fall every `N_SELF_PERIOD + 1` `CLK` events, the first at the first (47_foreground_sequencer.md, the refresh cadence). -/
def Obligations.SelfTimedIterationsFallOnAFixedPeriod : Prop :=
  ∀ (s : State) (clks : List Instr),
    s.pollState = .selfTimed → s.fgPhase = .compute → s.polled = false → 1 ≤ s.cfg.nSelfPeriod →
    (∀ i ∈ clks, i.isClk = true) →
    iterations clks s = (clks.length + s.cfg.nSelfPeriod) / (s.cfg.nSelfPeriod + 1)

/-- Whatever ED does, FG runs an iteration within max(`N_POLL_TIMEOUT`, `N_SELF_PERIOD`) + 1 `CLK` events (47_foreground_sequencer.md, "FG never stalls"). -/
def Obligations.ForegroundNeverStalls : Prop :=
  ∀ (s : State) (es : List Instr), Inv s → (∀ i ∈ es, i.inSession = true) →
    s.cfg.waitMax + 1 ≤ es.countP Instr.isClk → 1 ≤ iterations es s

/-- In a state of the invariant `wait_ctr` fits `W_WAIT` bits, and `W_WAIT` is the smallest width with room for both limits (00_scope.md section 3, decision D18; log entry 9). -/
def Obligations.WaitCounterFitsItsWidth : Prop :=
  ∀ s : State, Inv s → s.waitCtr < 2 ^ s.cfg.waitWidth ∧
    ∀ w : Nat, max s.cfg.nPollTimeout s.cfg.nSelfPeriod < 2 ^ w → s.cfg.waitWidth ≤ w

/-! CLK in COMPUTE: the iteration (47_foreground_sequencer.md, decision D9). -/

/-- The iteration's result but for the turbo registers, which have statements of their own: the latch from the first sample, the mode from latch and switch, the gate, the previous sample, the table built from the updated gate and the old phase, `OUT` under the refresh option, the entry into WAIT. -/
def Obligations.IterationEffect : Prop :=
  ∀ (s : State) (m : ButtonMask) (sw : Bool), s.fgPhase = .compute →
    ∃ t, exec (.clk m sw) s = .next t ∧
      t.poLatch = (if s.firstSample then m.getLsbD 2 else s.poLatch) ∧
      t.firstSample = false ∧
      t.mode = (if t.poLatch = true ∨ sw = true then .c3 else .s6) ∧
      t.ignoreGate = (if s.ignoreGate = true ∧ m = 0 then false else s.ignoreGate) ∧
      t.prevMask = m ∧
      (∀ i, t.table.read i = ~~~ (frame t.mode (buildFragments m t.ignoreGate s.phase s.map) i)) ∧
      t.out = (if s.cfg.outRefreshOnPublish then t.table.read s.cycleIdx else s.out) ∧
      t.fgPhase = .wait ∧ t.waitCtr = 0

/-- The frame of an iteration: the index, the flag, the polling state, the configuration and the input streams are unchanged, and `OUT` too unless the refresh option is set. All eight slots of the table are written. -/
def Obligations.IterationLeavesAllElse : Prop :=
  ∀ (s t : State) (m : ButtonMask) (sw : Bool), s.fgPhase = .compute → exec (.clk m sw) s = .next t →
    t.cycleIdx = s.cycleIdx ∧ t.polled = s.polled ∧ t.pollState = s.pollState ∧
    (s.cfg.outRefreshOnPublish = false → t.out = s.out) ∧
    t.cfg = s.cfg ∧ t.map = s.map ∧ t.listing = s.listing ∧ t.mapWords = s.mapWords ∧ t.events = s.events

/-- R89: an iteration leaves `mode` C3 if the power-on latch is set or the switch is asserted, and S6 otherwise. -/
def Obligations.ModeFollowsLatchAndSwitch : Prop :=
  ∀ (s : State) (m : ButtonMask) (sw : Bool), s.fgPhase = .compute →
    ∃ t, exec (.clk m sw) s = .next t ∧ (t.mode = .c3 ↔ (t.poLatch = true ∨ sw = true)) ∧
      (t.mode = .s6 ↔ (t.poLatch = false ∧ sw = false))

/-- R65: a speed edge advances the speed setting by one modulo 6; without one it stays. -/
def Obligations.SpeedEdgeAdvancesSpeedModuloSix : Prop :=
  ∀ (s : State) (m : ButtonMask) (sw : Bool), s.fgPhase = .compute →
    ∃ t, exec (.clk m sw) s = .next t ∧
      (speedEdge m s.prevMask s.map = true → t.speed.val = (s.speed.val + 1) % 6) ∧
      (speedEdge m s.prevMask s.map = false → t.speed = s.speed)

/-- A speed edge is a rise of some TurboSpeedSelect button, and the ignore gate has no part in it (41_button_mapper.md, decisions D13, D14). -/
def Obligations.SpeedEdgeIsARiseOfASpeedButton : Prop :=
  ∀ (m prev : ButtonMask) (map : List MapEntry), speedEdge m prev map = true ↔
    ∃ e ∈ map, e.flag = .speedSelect ∧ prev.getLsbD e.btn.toNat = false ∧ m.getLsbD e.btn.toNat = true

/-- TICK in an iteration, with the speed after its advance: at 1 or 0 the countdown reloads from the divisor table and the phase flips, else it counts down (42_turbo_engine.md, decision D12). -/
def Obligations.TickReloadsAndFlipsOrCountsDown : Prop :=
  ∀ (s : State) (m : ButtonMask) (sw : Bool), s.fgPhase = .compute →
    ∃ t, exec (.clk m sw) s = .next t ∧
      (s.countdown.val ≤ 1 → t.countdown.val = [2, 2, 3, 3, 4, 4].getD t.speed.val 0 ∧ t.phase = !s.phase) ∧
      (2 ≤ s.countdown.val → t.countdown.val = s.countdown.val - 1 ∧ t.phase = s.phase)

/-- The turbo period: from a reload, with no speed edge in the run, the phase after any run has flipped once for every DIV(speed) iterations of the run, so its waveform has period 2 * DIV(speed) (42_turbo_engine.md, conflict C1). -/
def Obligations.PhaseFlipsOnceEveryDivisorIterations : Prop :=
  ∀ (s : State) (es : List Instr),
    (∀ i ∈ es, i.inSession = true) →
    NoSpeedEdge es s →
    s.countdown = div s.speed →
    ∃ t, runInstrs es s = .next t ∧ t.speed = s.speed ∧
      t.phase = (s.phase ^^ decide (iterations es s / (div s.speed).val % 2 = 1))

/-- R60: a bit of a fragment is set exactly if some pressed entry has it, the gate is open, and, for a Turbo entry, the phase is true. -/
def Obligations.FragmentsAreTheOrOfActiveEntries : Prop :=
  ∀ (m : ButtonMask) (gate phase : Bool) (map : List MapEntry) (j : Nat),
    ((buildFragments m gate phase map).low.getLsbD j = true ↔
      ∃ e ∈ map, m.getLsbD e.btn.toNat = true ∧ gate = false ∧ (e.flag = .turbo → phase = true) ∧
        e.low.getLsbD j = true) ∧
    ((buildFragments m gate phase map).high.getLsbD j = true ↔
      ∃ e ∈ map, m.getLsbD e.btn.toNat = true ∧ gate = false ∧ (e.flag = .turbo → phase = true) ∧
        e.high.getLsbD j = true) ∧
    ((buildFragments m gate phase map).extra.getLsbD j = true ↔
      ∃ e ∈ map, m.getLsbD e.btn.toNat = true ∧ gate = false ∧ (e.flag = .turbo → phase = true) ∧
        e.extra.getLsbD j = true)

/-- The order of the map's entries has no effect on fragments or speed edges (41_button_mapper.md section 3). -/
def Obligations.MapOrderHasNoEffect : Prop :=
  ∀ (m prev : ButtonMask) (gate phase : Bool) (map map' : List MapEntry), map.Perm map' →
    buildFragments m gate phase map = buildFragments m gate phase map' ∧
    speedEdge m prev map = speedEdge m prev map'

/-- Pressing more buttons never clears a fragment bit (41_button_mapper.md section 3). -/
def Obligations.MorePressedButtonsClearNoFragmentBit : Prop :=
  ∀ (m m' : ButtonMask) (gate phase : Bool) (map : List MapEntry), m &&& m' = m →
    let f := buildFragments m gate phase map
    let g := buildFragments m' gate phase map
    f.low &&& g.low = f.low ∧ f.high &&& g.high = f.high ∧ f.extra &&& g.extra = f.extra

/-- Under every well-formed map, button A alone with the gate open gives the source's fragments at either phase, and so the scenario's C3 table (the spec's decision D5; vector L1-1). -/
def Obligations.ButtonAScenarioUnderEveryWellFormedMap : Prop :=
  ∀ (map : List MapEntry) (phase : Bool), mapOk map = true →
    buildFragments 0x100 false phase map = { low := 0x02, high := 0x00, extra := 0x00 } ∧
    slots.map (build .c3 (buildFragments 0x100 false phase map)) =
      [0xFF, 0xF1, 0xFF, 0xF1, 0xFF, 0xF1, 0xFF, 0xF1]

/-- The table an iteration publishes in C3, from the fragments of the updated gate and the old phase, an order that is the spec's own decision D9 (43_frame_builder.md, 47_foreground_sequencer.md; log entry 13). -/
def Obligations.ThreeButtonTableFromTheFragments : Prop :=
  ∀ (s t : State) (m : ButtonMask) (sw : Bool), s.fgPhase = .compute →
    exec (.clk m sw) s = .next t → t.mode = .c3 →
    ∀ i : Slot,
      (i.val % 2 = 0 → t.table.read i = ~~~ (buildFragments m t.ignoreGate s.phase s.map).high) ∧
      (i.val % 2 = 1 → t.table.read i = ~~~ ((buildFragments m t.ignoreGate s.phase s.map).low ||| 0x0c))

/-- The table an iteration publishes in S6, with slot 4 and slot 5 as the spec's decisions D7 and D8 read them. -/
def Obligations.SixButtonTableFromTheFragments : Prop :=
  ∀ (s t : State) (m : ButtonMask) (sw : Bool), s.fgPhase = .compute →
    exec (.clk m sw) s = .next t → t.mode = .s6 →
    ∃ f, f = buildFragments m t.ignoreGate s.phase s.map ∧
      t.table.read 0 = ~~~ f.high ∧ t.table.read 1 = ~~~ (f.low ||| 0x0c) ∧
      t.table.read 2 = ~~~ f.high ∧ t.table.read 3 = ~~~ (f.low ||| 0x0c) ∧
      t.table.read 4 = ~~~ f.high ∧ t.table.read 5 = ~~~ (f.low ||| 0x3c) ∧
      t.table.read 6 = ~~~ f.extra ∧ t.table.read 7 = ~~~ (f.high &&& 0x03)

/-- In C3 the published table does not depend on any entry's extra byte: two maps that differ only there publish the same table (43_frame_builder.md, "the table never reveals the extra fragment"). -/
def Obligations.ThreeButtonTableNeverRevealsExtra : Prop :=
  ∀ (s t t' : State) (map' : List MapEntry) (m : ButtonMask) (sw : Bool), s.fgPhase = .compute →
    map'.map (fun e => { e with extra := 0 }) = s.map.map (fun e => { e with extra := 0 }) →
    exec (.clk m sw) s = .next t → exec (.clk m sw) { s with map := map' } = .next t' →
    t.mode = .c3 → t'.mode = .c3 ∧ ∀ i, t'.table.read i = t.table.read i

/-- For the same fragments the two framings agree on slots 0 to 4 (slot 4 by the spec's decision D7), and in S6 slot 6 depends only on `extra` and slot 7 only on bits 0 and 1 of `high` (43_frame_builder.md). -/
def Obligations.FramingsShareAPrefixAndSlotsReadTheirFragment : Prop :=
  (∀ (f : Fragments) (i : Slot), i.val < 5 → build .c3 f i = build .s6 f i) ∧
  (∀ f g : Fragments, f.extra = g.extra → build .s6 f 6 = build .s6 g 6) ∧
  (∀ f g : Fragments, f.high &&& 0x03 = g.high &&& 0x03 → build .s6 f 7 = build .s6 g 7)

/-- R23: `RESET` sets the gate; no other step sets it; it clears exactly at an iteration that samples no button. -/
def Obligations.IgnoreGateClearsAtTheFirstReleasedSampleOnly : Prop :=
  (∀ s t : State, exec .reset s = .next t → t.ignoreGate = true) ∧
  (∀ (i : Instr) (s t : State), exec i s = .next t → i ≠ .reset →
    (t.ignoreGate = true ↔
      s.ignoreGate = true ∧ ¬ (s.fgPhase = .compute ∧ ∃ sw, i = .clk 0 sw)))

/-- While the gate stays shut, every published table is the all-released table of its mode (70_reset_and_hazards.md section 1, conflict C5). -/
def Obligations.ShutGatePublishesTheAllReleasedTable : Prop :=
  ∀ (s t : State) (m : ButtonMask) (sw : Bool), s.fgPhase = .compute →
    exec (.clk m sw) s = .next t → t.ignoreGate = true → ∀ i, t.table.read i = allReleased t.mode i

/-- The first table of a session is the all-released table of its mode, and that mode is C3 exactly if Mode is held or the switch is asserted, whatever edges came before it (70_reset_and_hazards.md section 1). -/
def Obligations.FirstTableOfASessionIsAllReleased : Prop :=
  ∀ (s : State) (edges : List Instr) (m : ButtonMask) (sw : Bool), (∀ i ∈ edges, i.isEdge = true) →
    ∃ t, runInstrs (.reset :: (edges ++ [.clk m sw])) s = .next t ∧
      t.mode = (if m.getLsbD 2 = true ∨ sw = true then .c3 else .s6) ∧
      ∀ i, t.table.read i = allReleased t.mode i

/-- The power-on latch takes the Mode bit of the first sample of a session and keeps it to the session's end; once set it holds the mode at C3 (46_mode_latch.md, decision D10). -/
def Obligations.PowerOnLatchIsStickyForTheSession : Prop :=
  ∀ (s : State) (edges es : List Instr) (m : ButtonMask) (sw : Bool),
    (∀ i ∈ edges, i.isEdge = true) → (∀ i ∈ es, i.inSession = true) →
    ∃ t, runInstrs (.reset :: (edges ++ .clk m sw :: es)) s = .next t ∧
      t.poLatch = m.getLsbD 2 ∧ t.firstSample = false ∧ (m.getLsbD 2 = true → t.mode = .c3)

/-! OUT (10_state.md, 47_foreground_sequencer.md; the option is the OPEN parameter of decision D22). -/

/-- Without the refresh option `OUT` changes only at a `SEL_EDGE` or a `RESET`. -/
def Obligations.OutChangesOnlyAtEdgesAndReset : Prop :=
  ∀ (i : Instr) (s t : State), s.cfg.outRefreshOnPublish = false → exec i s = .next t →
    t.out ≠ s.out → (∃ level, i = .selEdge level) ∨ i = .reset

/-! RESET (70_reset_and_hazards.md section 1: the spec's decisions D11, D14, D16, D17, D21; the fixed reset table and output are log entry 7). -/

/-- `RESET` in any state leaves every register of the record at its reset value, reads nothing of the state before, and leaves the configuration and the input streams. -/
def Obligations.ResetLeavesTheResetValues : Prop :=
  ∀ s : State, ∃ t, exec .reset s = .next t ∧
    t.out = 0xFF ∧ slots.map t.table.read = [0xFF, 0xF3, 0xFF, 0xF3, 0xFF, 0xF3, 0xFF, 0xF3] ∧
    t.cycleIdx.val = 0 ∧ t.polled = false ∧ t.pollState = .selfTimed ∧ t.fgPhase = .compute ∧
    t.waitCtr = 0 ∧ t.speed.val = 0 ∧ t.phase = false ∧ t.countdown.val = 0 ∧
    t.ignoreGate = true ∧ t.prevMask = 0 ∧ t.firstSample = true ∧ t.poLatch = false ∧ t.mode = .c3 ∧
    t.cfg = s.cfg ∧ t.map = s.map ∧ t.listing = s.listing ∧ t.mapWords = s.mapWords ∧ t.events = s.events

/-- After `RESET` the machine is the reset state of the model with the configuration and the streams it had: the memory is in the same canonical form. -/
def Obligations.ResetReachesTheResetState : Prop :=
  ∀ s : State, exec .reset s =
    .next { State.reset with
      cfg := s.cfg, map := s.map, listing := s.listing, mapWords := s.mapWords, events := s.events }

/-! The words of a MAP listing (30_encoding.md section 3, 41_button_mapper.md section 1; the loading itself is log entry 3). -/

/-- An entry word with a button index below 12 extends an open listing by its entry, with its own flag, and changes nothing else. -/
def Obligations.EntryWordsExtendAnOpenListing : Prop :=
  ∀ (s : State) (es : List MapEntry) (b : BitVec 4) (low high extra : Byte),
    s.listing = some es → b.toNat < 12 →
    exec (.mapentNone b low high extra) s = .next { s with listing := some (es ++ [⟨b, low, high, extra, .plain⟩]) } ∧
    exec (.mapentTurbo b low high extra) s = .next { s with listing := some (es ++ [⟨b, low, high, extra, .turbo⟩]) } ∧
    exec (.mapentSpeedsel b low high extra) s = .next { s with listing := some (es ++ [⟨b, low, high, extra, .speedSelect⟩]) }

/-- With no listing open, an entry word with a button index below 12 and the sentinel change nothing: they stand after the first sentinel (log entry 4). -/
def Obligations.WordsAfterTheSentinelChangeNothing : Prop :=
  ∀ (s : State) (b : BitVec 4) (low high extra : Byte), s.listing = none → b.toNat < 12 →
    exec (.mapentNone b low high extra) s = .next s ∧ exec (.mapentTurbo b low high extra) s = .next s ∧
    exec (.mapentSpeedsel b low high extra) s = .next s ∧ exec .mapend s = .next s

/-- An entry with a button index of 12 or more is refused as `BadMapEntry` in every state (log entry 11). -/
def Obligations.EntryWordsWithoutAButtonAreRefused : Prop :=
  ∀ (s : State) (b : BitVec 4) (low high extra : Byte), 12 ≤ b.toNat →
    exec (.mapentNone b low high extra) s = .refused .badMapEntry ∧
    exec (.mapentTurbo b low high extra) s = .refused .badMapEntry ∧
    exec (.mapentSpeedsel b low high extra) s = .refused .badMapEntry

/-- The sentinel of an open listing installs the listing as `MAP` if every entry has a button and A's entries OR to the source's fragments without and with the Turbo entries, and refuses `BadMap` if not (the spec's decision D5; log entry 3). -/
def Obligations.SentinelInstallsAWellFormedMapOnly : Prop :=
  ∀ (s : State) (es : List MapEntry), s.listing = some es →
    let nonTurboA := es.filter fun e => decide (e.btn = 8 ∧ e.flag ≠ .turbo)
    let allA := es.filter fun e => decide (e.btn = 8)
    let good := (∀ e ∈ es, e.btn.toNat < 12) ∧
      nonTurboA.foldr (fun e x => e.low ||| x) 0 = (0x02 : Byte) ∧ allA.foldr (fun e x => e.low ||| x) 0 = (0x02 : Byte) ∧
      (∀ e ∈ allA, e.high = 0 ∧ e.extra = 0)
    (good → exec .mapend s = .next { s with map := es, listing := none }) ∧
    (¬ good → exec .mapend s = .refused .badMap)

/-- The frame of the map words: the whole record, every slot of the table, the parameters and both streams are unchanged, and the three entry words leave `MAP` too. -/
def Obligations.MapWordsLeaveTheRecord : Prop :=
  ∀ (i : Instr) (s t : State), i.isEvent = false → exec i s = .next t →
    (∀ a, t.table.read a = s.table.read a) ∧
    (i ≠ .mapend → t.map = s.map) ∧
    t = { s with map := t.map, listing := t.listing }

/-- No event writes the configuration, and nothing at all writes the parameters (10_state.md section 5, decision D37). -/
def Obligations.EventsNeverWriteTheConfiguration : Prop :=
  (∀ (i : Instr) (s t : State), i.isEvent = true → exec i s = .next t → t.map = s.map ∧ t.listing = s.listing) ∧
  (∀ (i : Instr) (s t : State), exec i s = .next t → t.cfg = s.cfg)

/-! Whole-machine statements. -/

/-- Two tables in canonical form that read alike in every slot are the same data. -/
def Obligations.TablesThatReadAlikeAreEqual : Prop :=
  ∀ m m' : Memory, m.wf = true → m'.wf = true → (∀ i, m.read i = m'.read i) → m = m'

/-- The invariant holds in the model's reset state, whose configuration is the model's choice (log entries 5 and 6). -/
def Obligations.ResetStateMeetsTheInvariant : Prop := Inv State.reset

/-- Every step from a state of the invariant, reachable or not, gives a state of the invariant. -/
def Obligations.EveryStepKeepsTheInvariant : Prop :=
  ∀ s t : State, Inv s → step s = .next t → Inv t
end

