-- ==== Sys2Proof/Laws/Encoding.lean ====
section
/-! SUPPORT. The fields of the words the encoder writes, and words put together from their fields. -/

namespace Sys2Proof

/-- Each bit of an entry word is a bit of one field (R48). -/
theorem entryWord_getLsbD (f : BitVec 2) (b : BitVec 4) (l h x : Byte) (k : Nat) (hk : k < 32) :
    (entryWord f b l h x).getLsbD k =
      if 28 ≤ k then f.getLsbD (k - 28) else if 24 ≤ k then b.getLsbD (k - 24)
      else if 16 ≤ k then x.getLsbD (k - 16) else if 8 ≤ k then h.getLsbD (k - 8) else l.getLsbD k := by
  simp only [entryWord, BitVec.getLsbD_or, BitVec.getLsbD_shiftLeft, BitVec.getLsbD_setWidth, hk]
  have hz {w : Nat} (v : BitVec w) (j : Nat) (h : w ≤ j) : v.getLsbD j = false := BitVec.getLsbD_of_ge v j h
  split_ifs with h1 h2 h3 h4
  · rw [hz b _ (by omega), hz x _ (by omega), hz h _ (by omega), hz l _ (by omega)]
    simp [show ¬ k < 28 by omega, show k - 28 < 32 by omega]
  · rw [hz x _ (by omega), hz h _ (by omega), hz l _ (by omega)]
    simp [show k < 28 by omega, show ¬ k < 24 by omega, show k - 24 < 32 by omega]
  · rw [hz h _ (by omega), hz l _ (by omega)]
    simp [show k < 28 by omega, show k < 24 by omega, show ¬ k < 16 by omega, show k - 16 < 32 by omega]
  · rw [hz l _ (by omega)]
    simp [show k < 28 by omega, show k < 24 by omega, show k < 16 by omega, show ¬ k < 8 by omega, show k - 8 < 32 by omega]
  · simp [show k < 28 by omega, show k < 24 by omega, show k < 16 by omega, show k < 8 by omega]

/-- Bits [7:0] (R48). -/
@[simp] theorem entryWord_low (f : BitVec 2) (b : BitVec 4) (l h x : Byte) : (entryWord f b l h x).extractLsb' 0 8 = l := by
  ext i hi
  rw [BitVec.getElem_extractLsb', entryWord_getLsbD _ _ _ _ _ _ (by omega)]
  simp [show ¬ 28 ≤ i by omega, show ¬ 24 ≤ i by omega, show ¬ 16 ≤ i by omega, show ¬ 8 ≤ i by omega, ← BitVec.getLsbD_eq_getElem]

/-- Bits [15:8] (R48). -/
@[simp] theorem entryWord_high (f : BitVec 2) (b : BitVec 4) (l h x : Byte) : (entryWord f b l h x).extractLsb' 8 8 = h := by
  ext i hi
  rw [BitVec.getElem_extractLsb', entryWord_getLsbD _ _ _ _ _ _ (by omega)]
  simp [show ¬ 28 ≤ 8 + i by omega, show ¬ 24 ≤ 8 + i by omega, show ¬ 16 ≤ 8 + i by omega, ← BitVec.getLsbD_eq_getElem]

/-- Bits [23:16] (R48). -/
@[simp] theorem entryWord_extra (f : BitVec 2) (b : BitVec 4) (l h x : Byte) : (entryWord f b l h x).extractLsb' 16 8 = x := by
  ext i hi
  rw [BitVec.getElem_extractLsb', entryWord_getLsbD _ _ _ _ _ _ (by omega)]
  simp [show ¬ 28 ≤ 16 + i by omega, show ¬ 24 ≤ 16 + i by omega, ← BitVec.getLsbD_eq_getElem]

/-- Bits [27:24] (R48). -/
@[simp] theorem entryWord_btn (f : BitVec 2) (b : BitVec 4) (l h x : Byte) : (entryWord f b l h x).extractLsb' 24 4 = b := by
  ext i hi
  rw [BitVec.getElem_extractLsb', entryWord_getLsbD _ _ _ _ _ _ (by omega)]
  simp [show ¬ 28 ≤ 24 + i by omega, ← BitVec.getLsbD_eq_getElem]

/-- Bits [29:28] (R48). -/
@[simp] theorem entryWord_flag (f : BitVec 2) (b : BitVec 4) (l h x : Byte) : (entryWord f b l h x).extractLsb' 28 2 = f := by
  ext i hi
  rw [BitVec.getElem_extractLsb', entryWord_getLsbD _ _ _ _ _ _ (by omega)]
  simp [← BitVec.getLsbD_eq_getElem]

/-- Bits [31:30] (R48). -/
@[simp] theorem entryWord_reserved (f : BitVec 2) (b : BitVec 4) (l h x : Byte) : (entryWord f b l h x).extractLsb' 30 2 = 0 := by
  ext i hi
  rw [BitVec.getElem_extractLsb', entryWord_getLsbD _ _ _ _ _ _ (by omega)]
  rw [if_pos (by omega), BitVec.getLsbD_of_ge f _ (by omega)]; simp

/-- A word with bits [31:30] zero is the entry word of its fields. -/
theorem entryWord_of_fields (w : MapWord) (h : w.extractLsb' 30 2 = 0) :
    entryWord (w.extractLsb' 28 2) (w.extractLsb' 24 4) (w.extractLsb' 0 8) (w.extractLsb' 8 8)
      (w.extractLsb' 16 8) = w := by
  have hz : ∀ j, j < 2 → w.getLsbD (30 + j) = false := fun j hj => by
    have := congrArg (fun v => v.getLsbD j) h
    simpa [BitVec.getLsbD_extractLsb', hj] using this
  ext k hk
  rw [← BitVec.getLsbD_eq_getElem, ← BitVec.getLsbD_eq_getElem, entryWord_getLsbD _ _ _ _ _ _ hk]
  simp only [BitVec.getLsbD_extractLsb']
  split_ifs with h1 h2 h3 h4
  · by_cases h30 : k < 30
    · simp [show k - 28 < 2 by omega, show 28 + (k - 28) = k by omega]
    · have := hz (k - 30) (by omega)
      rw [show 30 + (k - 30) = k by omega] at this
      simp [show ¬ k - 28 < 2 by omega, this]
  · simp [show k - 24 < 4 by omega, show 24 + (k - 24) = k by omega]
  · simp [show k - 16 < 8 by omega, show 16 + (k - 16) = k by omega]
  · simp [show k - 8 < 8 by omega, show 8 + (k - 8) = k by omega]
  · simp [show k < 8 by omega]

/-- An entry word is not the sentinel, whose bits [31:30] are set (R49). -/
theorem entryWord_ne_sentinel (f : BitVec 2) (b : BitVec 4) (l h x : Byte) : entryWord f b l h x ≠ 0xFFFFFFFF := by
  intro hw
  have := entryWord_reserved f b l h x
  rw [hw] at this
  exact absurd this (by decide)

/-- Bits [15:13] of a `CLK` word are zero (R43). -/
@[simp] theorem clkWord_code (m : ButtonMask) (sw : Bool) : clkWord m sw &&& 0xE000 = 0x0000 := by
  unfold clkWord; ext i hi; interval_cases i <;> simp

/-- Bits [11:0] (R43). -/
@[simp] theorem clkWord_mask (m : ButtonMask) (sw : Bool) : (clkWord m sw).extractLsb' 0 12 = m := by
  unfold clkWord; ext i hi; interval_cases i <;> simp

/-- Bit 12 (R43). -/
@[simp] theorem clkWord_sw (m : ButtonMask) (sw : Bool) : (clkWord m sw).getLsbD 12 = sw := by
  simp [clkWord]

end Sys2Proof
end

