-- ==== Sys2Proof/Laws/State.lean ====
section
/-! SUPPORT. One lemma per field per named update of State: what the update writes there, or that it leaves the field. -/

namespace Sys2Proof.Machine

/-! The fields after `publish`. -/

@[simp] theorem publish_out (p8 : Slot → Byte) (s : State) : (publish p8 s).out = if s.cfg.outRefreshOnPublish then p8 s.cycleIdx else s.out := rfl
@[simp] theorem publish_table (p8 : Slot → Byte) (s : State) : (publish p8 s).table = Memory.ofSlots p8 := rfl
@[simp] theorem publish_cycleIdx (p8 : Slot → Byte) (s : State) : (publish p8 s).cycleIdx = s.cycleIdx := rfl
@[simp] theorem publish_polled (p8 : Slot → Byte) (s : State) : (publish p8 s).polled = s.polled := rfl
@[simp] theorem publish_pollState (p8 : Slot → Byte) (s : State) : (publish p8 s).pollState = s.pollState := rfl
@[simp] theorem publish_fgPhase (p8 : Slot → Byte) (s : State) : (publish p8 s).fgPhase = s.fgPhase := rfl
@[simp] theorem publish_waitCtr (p8 : Slot → Byte) (s : State) : (publish p8 s).waitCtr = s.waitCtr := rfl
@[simp] theorem publish_speed (p8 : Slot → Byte) (s : State) : (publish p8 s).speed = s.speed := rfl
@[simp] theorem publish_phase (p8 : Slot → Byte) (s : State) : (publish p8 s).phase = s.phase := rfl
@[simp] theorem publish_countdown (p8 : Slot → Byte) (s : State) : (publish p8 s).countdown = s.countdown := rfl
@[simp] theorem publish_ignoreGate (p8 : Slot → Byte) (s : State) : (publish p8 s).ignoreGate = s.ignoreGate := rfl
@[simp] theorem publish_prevMask (p8 : Slot → Byte) (s : State) : (publish p8 s).prevMask = s.prevMask := rfl
@[simp] theorem publish_firstSample (p8 : Slot → Byte) (s : State) : (publish p8 s).firstSample = s.firstSample := rfl
@[simp] theorem publish_poLatch (p8 : Slot → Byte) (s : State) : (publish p8 s).poLatch = s.poLatch := rfl
@[simp] theorem publish_mode (p8 : Slot → Byte) (s : State) : (publish p8 s).mode = s.mode := rfl
@[simp] theorem publish_cfg (p8 : Slot → Byte) (s : State) : (publish p8 s).cfg = s.cfg := rfl
@[simp] theorem publish_map (p8 : Slot → Byte) (s : State) : (publish p8 s).map = s.map := rfl
@[simp] theorem publish_listing (p8 : Slot → Byte) (s : State) : (publish p8 s).listing = s.listing := rfl
@[simp] theorem publish_mapWords (p8 : Slot → Byte) (s : State) : (publish p8 s).mapWords = s.mapWords := rfl
@[simp] theorem publish_events (p8 : Slot → Byte) (s : State) : (publish p8 s).events = s.events := rfl

/-! The fields after `driveNextSlot`. -/

@[simp] theorem driveNextSlot_out (s : State) : (driveNextSlot s).out = s.table.read (s.cycleIdx + 1) := rfl
@[simp] theorem driveNextSlot_table (s : State) : (driveNextSlot s).table = s.table := rfl
@[simp] theorem driveNextSlot_cycleIdx (s : State) : (driveNextSlot s).cycleIdx = s.cycleIdx + 1 := rfl
@[simp] theorem driveNextSlot_polled (s : State) : (driveNextSlot s).polled = true := rfl
@[simp] theorem driveNextSlot_pollState (s : State) : (driveNextSlot s).pollState = s.pollState := rfl
@[simp] theorem driveNextSlot_fgPhase (s : State) : (driveNextSlot s).fgPhase = s.fgPhase := rfl
@[simp] theorem driveNextSlot_waitCtr (s : State) : (driveNextSlot s).waitCtr = s.waitCtr := rfl
@[simp] theorem driveNextSlot_speed (s : State) : (driveNextSlot s).speed = s.speed := rfl
@[simp] theorem driveNextSlot_phase (s : State) : (driveNextSlot s).phase = s.phase := rfl
@[simp] theorem driveNextSlot_countdown (s : State) : (driveNextSlot s).countdown = s.countdown := rfl
@[simp] theorem driveNextSlot_ignoreGate (s : State) : (driveNextSlot s).ignoreGate = s.ignoreGate := rfl
@[simp] theorem driveNextSlot_prevMask (s : State) : (driveNextSlot s).prevMask = s.prevMask := rfl
@[simp] theorem driveNextSlot_firstSample (s : State) : (driveNextSlot s).firstSample = s.firstSample := rfl
@[simp] theorem driveNextSlot_poLatch (s : State) : (driveNextSlot s).poLatch = s.poLatch := rfl
@[simp] theorem driveNextSlot_mode (s : State) : (driveNextSlot s).mode = s.mode := rfl
@[simp] theorem driveNextSlot_cfg (s : State) : (driveNextSlot s).cfg = s.cfg := rfl
@[simp] theorem driveNextSlot_map (s : State) : (driveNextSlot s).map = s.map := rfl
@[simp] theorem driveNextSlot_listing (s : State) : (driveNextSlot s).listing = s.listing := rfl
@[simp] theorem driveNextSlot_mapWords (s : State) : (driveNextSlot s).mapWords = s.mapWords := rfl
@[simp] theorem driveNextSlot_events (s : State) : (driveNextSlot s).events = s.events := rfl

/-! The fields after `gateUpdate`. -/

@[simp] theorem gateUpdate_out (m : ButtonMask) (s : State) : (gateUpdate m s).out = s.out := rfl
@[simp] theorem gateUpdate_table (m : ButtonMask) (s : State) : (gateUpdate m s).table = s.table := rfl
@[simp] theorem gateUpdate_cycleIdx (m : ButtonMask) (s : State) : (gateUpdate m s).cycleIdx = s.cycleIdx := rfl
@[simp] theorem gateUpdate_polled (m : ButtonMask) (s : State) : (gateUpdate m s).polled = s.polled := rfl
@[simp] theorem gateUpdate_pollState (m : ButtonMask) (s : State) : (gateUpdate m s).pollState = s.pollState := rfl
@[simp] theorem gateUpdate_fgPhase (m : ButtonMask) (s : State) : (gateUpdate m s).fgPhase = s.fgPhase := rfl
@[simp] theorem gateUpdate_waitCtr (m : ButtonMask) (s : State) : (gateUpdate m s).waitCtr = s.waitCtr := rfl
@[simp] theorem gateUpdate_speed (m : ButtonMask) (s : State) : (gateUpdate m s).speed = s.speed := rfl
@[simp] theorem gateUpdate_phase (m : ButtonMask) (s : State) : (gateUpdate m s).phase = s.phase := rfl
@[simp] theorem gateUpdate_countdown (m : ButtonMask) (s : State) : (gateUpdate m s).countdown = s.countdown := rfl
@[simp] theorem gateUpdate_ignoreGate (m : ButtonMask) (s : State) : (gateUpdate m s).ignoreGate = (s.ignoreGate && decide (m ≠ 0)) := rfl
@[simp] theorem gateUpdate_prevMask (m : ButtonMask) (s : State) : (gateUpdate m s).prevMask = s.prevMask := rfl
@[simp] theorem gateUpdate_firstSample (m : ButtonMask) (s : State) : (gateUpdate m s).firstSample = s.firstSample := rfl
@[simp] theorem gateUpdate_poLatch (m : ButtonMask) (s : State) : (gateUpdate m s).poLatch = s.poLatch := rfl
@[simp] theorem gateUpdate_mode (m : ButtonMask) (s : State) : (gateUpdate m s).mode = s.mode := rfl
@[simp] theorem gateUpdate_cfg (m : ButtonMask) (s : State) : (gateUpdate m s).cfg = s.cfg := rfl
@[simp] theorem gateUpdate_map (m : ButtonMask) (s : State) : (gateUpdate m s).map = s.map := rfl
@[simp] theorem gateUpdate_listing (m : ButtonMask) (s : State) : (gateUpdate m s).listing = s.listing := rfl
@[simp] theorem gateUpdate_mapWords (m : ButtonMask) (s : State) : (gateUpdate m s).mapWords = s.mapWords := rfl
@[simp] theorem gateUpdate_events (m : ButtonMask) (s : State) : (gateUpdate m s).events = s.events := rfl

/-! The fields after `latchPowerOn`. -/

@[simp] theorem latchPowerOn_out (m : ButtonMask) (s : State) : (latchPowerOn m s).out = s.out := rfl
@[simp] theorem latchPowerOn_table (m : ButtonMask) (s : State) : (latchPowerOn m s).table = s.table := rfl
@[simp] theorem latchPowerOn_cycleIdx (m : ButtonMask) (s : State) : (latchPowerOn m s).cycleIdx = s.cycleIdx := rfl
@[simp] theorem latchPowerOn_polled (m : ButtonMask) (s : State) : (latchPowerOn m s).polled = s.polled := rfl
@[simp] theorem latchPowerOn_pollState (m : ButtonMask) (s : State) : (latchPowerOn m s).pollState = s.pollState := rfl
@[simp] theorem latchPowerOn_fgPhase (m : ButtonMask) (s : State) : (latchPowerOn m s).fgPhase = s.fgPhase := rfl
@[simp] theorem latchPowerOn_waitCtr (m : ButtonMask) (s : State) : (latchPowerOn m s).waitCtr = s.waitCtr := rfl
@[simp] theorem latchPowerOn_speed (m : ButtonMask) (s : State) : (latchPowerOn m s).speed = s.speed := rfl
@[simp] theorem latchPowerOn_phase (m : ButtonMask) (s : State) : (latchPowerOn m s).phase = s.phase := rfl
@[simp] theorem latchPowerOn_countdown (m : ButtonMask) (s : State) : (latchPowerOn m s).countdown = s.countdown := rfl
@[simp] theorem latchPowerOn_ignoreGate (m : ButtonMask) (s : State) : (latchPowerOn m s).ignoreGate = s.ignoreGate := rfl
@[simp] theorem latchPowerOn_prevMask (m : ButtonMask) (s : State) : (latchPowerOn m s).prevMask = s.prevMask := rfl
@[simp] theorem latchPowerOn_firstSample (m : ButtonMask) (s : State) : (latchPowerOn m s).firstSample = false := rfl
@[simp] theorem latchPowerOn_poLatch (m : ButtonMask) (s : State) : (latchPowerOn m s).poLatch = if s.firstSample then pressed m modeButton else s.poLatch := rfl
@[simp] theorem latchPowerOn_mode (m : ButtonMask) (s : State) : (latchPowerOn m s).mode = s.mode := rfl
@[simp] theorem latchPowerOn_cfg (m : ButtonMask) (s : State) : (latchPowerOn m s).cfg = s.cfg := rfl
@[simp] theorem latchPowerOn_map (m : ButtonMask) (s : State) : (latchPowerOn m s).map = s.map := rfl
@[simp] theorem latchPowerOn_listing (m : ButtonMask) (s : State) : (latchPowerOn m s).listing = s.listing := rfl
@[simp] theorem latchPowerOn_mapWords (m : ButtonMask) (s : State) : (latchPowerOn m s).mapWords = s.mapWords := rfl
@[simp] theorem latchPowerOn_events (m : ButtonMask) (s : State) : (latchPowerOn m s).events = s.events := rfl

/-! The fields after `consumePolled`. -/

@[simp] theorem consumePolled_out (s : State) : (consumePolled s).out = s.out := rfl
@[simp] theorem consumePolled_table (s : State) : (consumePolled s).table = s.table := rfl
@[simp] theorem consumePolled_cycleIdx (s : State) : (consumePolled s).cycleIdx = s.cycleIdx := rfl
@[simp] theorem consumePolled_polled (s : State) : (consumePolled s).polled = false := rfl
@[simp] theorem consumePolled_pollState (s : State) : (consumePolled s).pollState = s.pollState := rfl
@[simp] theorem consumePolled_fgPhase (s : State) : (consumePolled s).fgPhase = s.fgPhase := rfl
@[simp] theorem consumePolled_waitCtr (s : State) : (consumePolled s).waitCtr = s.waitCtr := rfl
@[simp] theorem consumePolled_speed (s : State) : (consumePolled s).speed = s.speed := rfl
@[simp] theorem consumePolled_phase (s : State) : (consumePolled s).phase = s.phase := rfl
@[simp] theorem consumePolled_countdown (s : State) : (consumePolled s).countdown = s.countdown := rfl
@[simp] theorem consumePolled_ignoreGate (s : State) : (consumePolled s).ignoreGate = s.ignoreGate := rfl
@[simp] theorem consumePolled_prevMask (s : State) : (consumePolled s).prevMask = s.prevMask := rfl
@[simp] theorem consumePolled_firstSample (s : State) : (consumePolled s).firstSample = s.firstSample := rfl
@[simp] theorem consumePolled_poLatch (s : State) : (consumePolled s).poLatch = s.poLatch := rfl
@[simp] theorem consumePolled_mode (s : State) : (consumePolled s).mode = s.mode := rfl
@[simp] theorem consumePolled_cfg (s : State) : (consumePolled s).cfg = s.cfg := rfl
@[simp] theorem consumePolled_map (s : State) : (consumePolled s).map = s.map := rfl
@[simp] theorem consumePolled_listing (s : State) : (consumePolled s).listing = s.listing := rfl
@[simp] theorem consumePolled_mapWords (s : State) : (consumePolled s).mapWords = s.mapWords := rfl
@[simp] theorem consumePolled_events (s : State) : (consumePolled s).events = s.events := rfl

/-! The fields after `recordMask`. -/

@[simp] theorem recordMask_out (m : ButtonMask) (s : State) : (recordMask m s).out = s.out := rfl
@[simp] theorem recordMask_table (m : ButtonMask) (s : State) : (recordMask m s).table = s.table := rfl
@[simp] theorem recordMask_cycleIdx (m : ButtonMask) (s : State) : (recordMask m s).cycleIdx = s.cycleIdx := rfl
@[simp] theorem recordMask_polled (m : ButtonMask) (s : State) : (recordMask m s).polled = s.polled := rfl
@[simp] theorem recordMask_pollState (m : ButtonMask) (s : State) : (recordMask m s).pollState = s.pollState := rfl
@[simp] theorem recordMask_fgPhase (m : ButtonMask) (s : State) : (recordMask m s).fgPhase = s.fgPhase := rfl
@[simp] theorem recordMask_waitCtr (m : ButtonMask) (s : State) : (recordMask m s).waitCtr = s.waitCtr := rfl
@[simp] theorem recordMask_speed (m : ButtonMask) (s : State) : (recordMask m s).speed = s.speed := rfl
@[simp] theorem recordMask_phase (m : ButtonMask) (s : State) : (recordMask m s).phase = s.phase := rfl
@[simp] theorem recordMask_countdown (m : ButtonMask) (s : State) : (recordMask m s).countdown = s.countdown := rfl
@[simp] theorem recordMask_ignoreGate (m : ButtonMask) (s : State) : (recordMask m s).ignoreGate = s.ignoreGate := rfl
@[simp] theorem recordMask_prevMask (m : ButtonMask) (s : State) : (recordMask m s).prevMask = m := rfl
@[simp] theorem recordMask_firstSample (m : ButtonMask) (s : State) : (recordMask m s).firstSample = s.firstSample := rfl
@[simp] theorem recordMask_poLatch (m : ButtonMask) (s : State) : (recordMask m s).poLatch = s.poLatch := rfl
@[simp] theorem recordMask_mode (m : ButtonMask) (s : State) : (recordMask m s).mode = s.mode := rfl
@[simp] theorem recordMask_cfg (m : ButtonMask) (s : State) : (recordMask m s).cfg = s.cfg := rfl
@[simp] theorem recordMask_map (m : ButtonMask) (s : State) : (recordMask m s).map = s.map := rfl
@[simp] theorem recordMask_listing (m : ButtonMask) (s : State) : (recordMask m s).listing = s.listing := rfl
@[simp] theorem recordMask_mapWords (m : ButtonMask) (s : State) : (recordMask m s).mapWords = s.mapWords := rfl
@[simp] theorem recordMask_events (m : ButtonMask) (s : State) : (recordMask m s).events = s.events := rfl

/-! The fields after `speedAdvance`. -/

@[simp] theorem speedAdvance_out (edge : Bool) (s : State) : (speedAdvance edge s).out = s.out := rfl
@[simp] theorem speedAdvance_table (edge : Bool) (s : State) : (speedAdvance edge s).table = s.table := rfl
@[simp] theorem speedAdvance_cycleIdx (edge : Bool) (s : State) : (speedAdvance edge s).cycleIdx = s.cycleIdx := rfl
@[simp] theorem speedAdvance_polled (edge : Bool) (s : State) : (speedAdvance edge s).polled = s.polled := rfl
@[simp] theorem speedAdvance_pollState (edge : Bool) (s : State) : (speedAdvance edge s).pollState = s.pollState := rfl
@[simp] theorem speedAdvance_fgPhase (edge : Bool) (s : State) : (speedAdvance edge s).fgPhase = s.fgPhase := rfl
@[simp] theorem speedAdvance_waitCtr (edge : Bool) (s : State) : (speedAdvance edge s).waitCtr = s.waitCtr := rfl
@[simp] theorem speedAdvance_speed (edge : Bool) (s : State) : (speedAdvance edge s).speed = if edge then s.speed + 1 else s.speed := rfl
@[simp] theorem speedAdvance_phase (edge : Bool) (s : State) : (speedAdvance edge s).phase = s.phase := rfl
@[simp] theorem speedAdvance_countdown (edge : Bool) (s : State) : (speedAdvance edge s).countdown = s.countdown := rfl
@[simp] theorem speedAdvance_ignoreGate (edge : Bool) (s : State) : (speedAdvance edge s).ignoreGate = s.ignoreGate := rfl
@[simp] theorem speedAdvance_prevMask (edge : Bool) (s : State) : (speedAdvance edge s).prevMask = s.prevMask := rfl
@[simp] theorem speedAdvance_firstSample (edge : Bool) (s : State) : (speedAdvance edge s).firstSample = s.firstSample := rfl
@[simp] theorem speedAdvance_poLatch (edge : Bool) (s : State) : (speedAdvance edge s).poLatch = s.poLatch := rfl
@[simp] theorem speedAdvance_mode (edge : Bool) (s : State) : (speedAdvance edge s).mode = s.mode := rfl
@[simp] theorem speedAdvance_cfg (edge : Bool) (s : State) : (speedAdvance edge s).cfg = s.cfg := rfl
@[simp] theorem speedAdvance_map (edge : Bool) (s : State) : (speedAdvance edge s).map = s.map := rfl
@[simp] theorem speedAdvance_listing (edge : Bool) (s : State) : (speedAdvance edge s).listing = s.listing := rfl
@[simp] theorem speedAdvance_mapWords (edge : Bool) (s : State) : (speedAdvance edge s).mapWords = s.mapWords := rfl
@[simp] theorem speedAdvance_events (edge : Bool) (s : State) : (speedAdvance edge s).events = s.events := rfl

/-! The fields after `tick`. -/

@[simp] theorem tick_out (s : State) : (tick s).out = s.out := rfl
@[simp] theorem tick_table (s : State) : (tick s).table = s.table := rfl
@[simp] theorem tick_cycleIdx (s : State) : (tick s).cycleIdx = s.cycleIdx := rfl
@[simp] theorem tick_polled (s : State) : (tick s).polled = s.polled := rfl
@[simp] theorem tick_pollState (s : State) : (tick s).pollState = s.pollState := rfl
@[simp] theorem tick_fgPhase (s : State) : (tick s).fgPhase = s.fgPhase := rfl
@[simp] theorem tick_waitCtr (s : State) : (tick s).waitCtr = s.waitCtr := rfl
@[simp] theorem tick_speed (s : State) : (tick s).speed = s.speed := rfl
@[simp] theorem tick_phase (s : State) : (tick s).phase = if s.countdown ≤ 1 then !s.phase else s.phase := rfl
@[simp] theorem tick_countdown (s : State) : (tick s).countdown = if s.countdown ≤ 1 then div s.speed else s.countdown - 1 := rfl
@[simp] theorem tick_ignoreGate (s : State) : (tick s).ignoreGate = s.ignoreGate := rfl
@[simp] theorem tick_prevMask (s : State) : (tick s).prevMask = s.prevMask := rfl
@[simp] theorem tick_firstSample (s : State) : (tick s).firstSample = s.firstSample := rfl
@[simp] theorem tick_poLatch (s : State) : (tick s).poLatch = s.poLatch := rfl
@[simp] theorem tick_mode (s : State) : (tick s).mode = s.mode := rfl
@[simp] theorem tick_cfg (s : State) : (tick s).cfg = s.cfg := rfl
@[simp] theorem tick_map (s : State) : (tick s).map = s.map := rfl
@[simp] theorem tick_listing (s : State) : (tick s).listing = s.listing := rfl
@[simp] theorem tick_mapWords (s : State) : (tick s).mapWords = s.mapWords := rfl
@[simp] theorem tick_events (s : State) : (tick s).events = s.events := rfl

/-! The fields after `modeSelect`. -/

@[simp] theorem modeSelect_out (sw : Bool) (s : State) : (modeSelect sw s).out = s.out := rfl
@[simp] theorem modeSelect_table (sw : Bool) (s : State) : (modeSelect sw s).table = s.table := rfl
@[simp] theorem modeSelect_cycleIdx (sw : Bool) (s : State) : (modeSelect sw s).cycleIdx = s.cycleIdx := rfl
@[simp] theorem modeSelect_polled (sw : Bool) (s : State) : (modeSelect sw s).polled = s.polled := rfl
@[simp] theorem modeSelect_pollState (sw : Bool) (s : State) : (modeSelect sw s).pollState = s.pollState := rfl
@[simp] theorem modeSelect_fgPhase (sw : Bool) (s : State) : (modeSelect sw s).fgPhase = s.fgPhase := rfl
@[simp] theorem modeSelect_waitCtr (sw : Bool) (s : State) : (modeSelect sw s).waitCtr = s.waitCtr := rfl
@[simp] theorem modeSelect_speed (sw : Bool) (s : State) : (modeSelect sw s).speed = s.speed := rfl
@[simp] theorem modeSelect_phase (sw : Bool) (s : State) : (modeSelect sw s).phase = s.phase := rfl
@[simp] theorem modeSelect_countdown (sw : Bool) (s : State) : (modeSelect sw s).countdown = s.countdown := rfl
@[simp] theorem modeSelect_ignoreGate (sw : Bool) (s : State) : (modeSelect sw s).ignoreGate = s.ignoreGate := rfl
@[simp] theorem modeSelect_prevMask (sw : Bool) (s : State) : (modeSelect sw s).prevMask = s.prevMask := rfl
@[simp] theorem modeSelect_firstSample (sw : Bool) (s : State) : (modeSelect sw s).firstSample = s.firstSample := rfl
@[simp] theorem modeSelect_poLatch (sw : Bool) (s : State) : (modeSelect sw s).poLatch = s.poLatch := rfl
@[simp] theorem modeSelect_mode (sw : Bool) (s : State) : (modeSelect sw s).mode = if s.poLatch || sw then .c3 else .s6 := rfl
@[simp] theorem modeSelect_cfg (sw : Bool) (s : State) : (modeSelect sw s).cfg = s.cfg := rfl
@[simp] theorem modeSelect_map (sw : Bool) (s : State) : (modeSelect sw s).map = s.map := rfl
@[simp] theorem modeSelect_listing (sw : Bool) (s : State) : (modeSelect sw s).listing = s.listing := rfl
@[simp] theorem modeSelect_mapWords (sw : Bool) (s : State) : (modeSelect sw s).mapWords = s.mapWords := rfl
@[simp] theorem modeSelect_events (sw : Bool) (s : State) : (modeSelect sw s).events = s.events := rfl

/-! The fields after `pollSeen`. -/

@[simp] theorem pollSeen_out (s : State) : (pollSeen s).out = s.out := rfl
@[simp] theorem pollSeen_table (s : State) : (pollSeen s).table = s.table := rfl
@[simp] theorem pollSeen_cycleIdx (s : State) : (pollSeen s).cycleIdx = s.cycleIdx := rfl
@[simp] theorem pollSeen_polled (s : State) : (pollSeen s).polled = false := rfl
@[simp] theorem pollSeen_pollState (s : State) : (pollSeen s).pollState = .hostPolled := rfl
@[simp] theorem pollSeen_fgPhase (s : State) : (pollSeen s).fgPhase = .compute := rfl
@[simp] theorem pollSeen_waitCtr (s : State) : (pollSeen s).waitCtr = s.waitCtr := rfl
@[simp] theorem pollSeen_speed (s : State) : (pollSeen s).speed = s.speed := rfl
@[simp] theorem pollSeen_phase (s : State) : (pollSeen s).phase = s.phase := rfl
@[simp] theorem pollSeen_countdown (s : State) : (pollSeen s).countdown = s.countdown := rfl
@[simp] theorem pollSeen_ignoreGate (s : State) : (pollSeen s).ignoreGate = s.ignoreGate := rfl
@[simp] theorem pollSeen_prevMask (s : State) : (pollSeen s).prevMask = s.prevMask := rfl
@[simp] theorem pollSeen_firstSample (s : State) : (pollSeen s).firstSample = s.firstSample := rfl
@[simp] theorem pollSeen_poLatch (s : State) : (pollSeen s).poLatch = s.poLatch := rfl
@[simp] theorem pollSeen_mode (s : State) : (pollSeen s).mode = s.mode := rfl
@[simp] theorem pollSeen_cfg (s : State) : (pollSeen s).cfg = s.cfg := rfl
@[simp] theorem pollSeen_map (s : State) : (pollSeen s).map = s.map := rfl
@[simp] theorem pollSeen_listing (s : State) : (pollSeen s).listing = s.listing := rfl
@[simp] theorem pollSeen_mapWords (s : State) : (pollSeen s).mapWords = s.mapWords := rfl
@[simp] theorem pollSeen_events (s : State) : (pollSeen s).events = s.events := rfl

/-! The fields after `pollTimeout`. -/

@[simp] theorem pollTimeout_out (s : State) : (pollTimeout s).out = s.out := rfl
@[simp] theorem pollTimeout_table (s : State) : (pollTimeout s).table = s.table := rfl
@[simp] theorem pollTimeout_cycleIdx (s : State) : (pollTimeout s).cycleIdx = s.cycleIdx := rfl
@[simp] theorem pollTimeout_polled (s : State) : (pollTimeout s).polled = s.polled := rfl
@[simp] theorem pollTimeout_pollState (s : State) : (pollTimeout s).pollState = .selfTimed := rfl
@[simp] theorem pollTimeout_fgPhase (s : State) : (pollTimeout s).fgPhase = .compute := rfl
@[simp] theorem pollTimeout_waitCtr (s : State) : (pollTimeout s).waitCtr = s.waitCtr := rfl
@[simp] theorem pollTimeout_speed (s : State) : (pollTimeout s).speed = s.speed := rfl
@[simp] theorem pollTimeout_phase (s : State) : (pollTimeout s).phase = s.phase := rfl
@[simp] theorem pollTimeout_countdown (s : State) : (pollTimeout s).countdown = s.countdown := rfl
@[simp] theorem pollTimeout_ignoreGate (s : State) : (pollTimeout s).ignoreGate = s.ignoreGate := rfl
@[simp] theorem pollTimeout_prevMask (s : State) : (pollTimeout s).prevMask = s.prevMask := rfl
@[simp] theorem pollTimeout_firstSample (s : State) : (pollTimeout s).firstSample = s.firstSample := rfl
@[simp] theorem pollTimeout_poLatch (s : State) : (pollTimeout s).poLatch = s.poLatch := rfl
@[simp] theorem pollTimeout_mode (s : State) : (pollTimeout s).mode = s.mode := rfl
@[simp] theorem pollTimeout_cfg (s : State) : (pollTimeout s).cfg = s.cfg := rfl
@[simp] theorem pollTimeout_map (s : State) : (pollTimeout s).map = s.map := rfl
@[simp] theorem pollTimeout_listing (s : State) : (pollTimeout s).listing = s.listing := rfl
@[simp] theorem pollTimeout_mapWords (s : State) : (pollTimeout s).mapWords = s.mapWords := rfl
@[simp] theorem pollTimeout_events (s : State) : (pollTimeout s).events = s.events := rfl

/-! The fields after `selfPeriod`. -/

@[simp] theorem selfPeriod_out (s : State) : (selfPeriod s).out = s.out := rfl
@[simp] theorem selfPeriod_table (s : State) : (selfPeriod s).table = s.table := rfl
@[simp] theorem selfPeriod_cycleIdx (s : State) : (selfPeriod s).cycleIdx = s.cycleIdx := rfl
@[simp] theorem selfPeriod_polled (s : State) : (selfPeriod s).polled = s.polled := rfl
@[simp] theorem selfPeriod_pollState (s : State) : (selfPeriod s).pollState = s.pollState := rfl
@[simp] theorem selfPeriod_fgPhase (s : State) : (selfPeriod s).fgPhase = .compute := rfl
@[simp] theorem selfPeriod_waitCtr (s : State) : (selfPeriod s).waitCtr = s.waitCtr := rfl
@[simp] theorem selfPeriod_speed (s : State) : (selfPeriod s).speed = s.speed := rfl
@[simp] theorem selfPeriod_phase (s : State) : (selfPeriod s).phase = s.phase := rfl
@[simp] theorem selfPeriod_countdown (s : State) : (selfPeriod s).countdown = s.countdown := rfl
@[simp] theorem selfPeriod_ignoreGate (s : State) : (selfPeriod s).ignoreGate = s.ignoreGate := rfl
@[simp] theorem selfPeriod_prevMask (s : State) : (selfPeriod s).prevMask = s.prevMask := rfl
@[simp] theorem selfPeriod_firstSample (s : State) : (selfPeriod s).firstSample = s.firstSample := rfl
@[simp] theorem selfPeriod_poLatch (s : State) : (selfPeriod s).poLatch = s.poLatch := rfl
@[simp] theorem selfPeriod_mode (s : State) : (selfPeriod s).mode = s.mode := rfl
@[simp] theorem selfPeriod_cfg (s : State) : (selfPeriod s).cfg = s.cfg := rfl
@[simp] theorem selfPeriod_map (s : State) : (selfPeriod s).map = s.map := rfl
@[simp] theorem selfPeriod_listing (s : State) : (selfPeriod s).listing = s.listing := rfl
@[simp] theorem selfPeriod_mapWords (s : State) : (selfPeriod s).mapWords = s.mapWords := rfl
@[simp] theorem selfPeriod_events (s : State) : (selfPeriod s).events = s.events := rfl

/-! The fields after `countQuantum`. -/

@[simp] theorem countQuantum_out (s : State) : (countQuantum s).out = s.out := rfl
@[simp] theorem countQuantum_table (s : State) : (countQuantum s).table = s.table := rfl
@[simp] theorem countQuantum_cycleIdx (s : State) : (countQuantum s).cycleIdx = s.cycleIdx := rfl
@[simp] theorem countQuantum_polled (s : State) : (countQuantum s).polled = s.polled := rfl
@[simp] theorem countQuantum_pollState (s : State) : (countQuantum s).pollState = s.pollState := rfl
@[simp] theorem countQuantum_fgPhase (s : State) : (countQuantum s).fgPhase = s.fgPhase := rfl
@[simp] theorem countQuantum_waitCtr (s : State) : (countQuantum s).waitCtr = s.waitCtr + 1 := rfl
@[simp] theorem countQuantum_speed (s : State) : (countQuantum s).speed = s.speed := rfl
@[simp] theorem countQuantum_phase (s : State) : (countQuantum s).phase = s.phase := rfl
@[simp] theorem countQuantum_countdown (s : State) : (countQuantum s).countdown = s.countdown := rfl
@[simp] theorem countQuantum_ignoreGate (s : State) : (countQuantum s).ignoreGate = s.ignoreGate := rfl
@[simp] theorem countQuantum_prevMask (s : State) : (countQuantum s).prevMask = s.prevMask := rfl
@[simp] theorem countQuantum_firstSample (s : State) : (countQuantum s).firstSample = s.firstSample := rfl
@[simp] theorem countQuantum_poLatch (s : State) : (countQuantum s).poLatch = s.poLatch := rfl
@[simp] theorem countQuantum_mode (s : State) : (countQuantum s).mode = s.mode := rfl
@[simp] theorem countQuantum_cfg (s : State) : (countQuantum s).cfg = s.cfg := rfl
@[simp] theorem countQuantum_map (s : State) : (countQuantum s).map = s.map := rfl
@[simp] theorem countQuantum_listing (s : State) : (countQuantum s).listing = s.listing := rfl
@[simp] theorem countQuantum_mapWords (s : State) : (countQuantum s).mapWords = s.mapWords := rfl
@[simp] theorem countQuantum_events (s : State) : (countQuantum s).events = s.events := rfl

/-! The fields after `enterWait`. -/

@[simp] theorem enterWait_out (s : State) : (enterWait s).out = s.out := rfl
@[simp] theorem enterWait_table (s : State) : (enterWait s).table = s.table := rfl
@[simp] theorem enterWait_cycleIdx (s : State) : (enterWait s).cycleIdx = s.cycleIdx := rfl
@[simp] theorem enterWait_polled (s : State) : (enterWait s).polled = s.polled := rfl
@[simp] theorem enterWait_pollState (s : State) : (enterWait s).pollState = s.pollState := rfl
@[simp] theorem enterWait_fgPhase (s : State) : (enterWait s).fgPhase = .wait := rfl
@[simp] theorem enterWait_waitCtr (s : State) : (enterWait s).waitCtr = 0 := rfl
@[simp] theorem enterWait_speed (s : State) : (enterWait s).speed = s.speed := rfl
@[simp] theorem enterWait_phase (s : State) : (enterWait s).phase = s.phase := rfl
@[simp] theorem enterWait_countdown (s : State) : (enterWait s).countdown = s.countdown := rfl
@[simp] theorem enterWait_ignoreGate (s : State) : (enterWait s).ignoreGate = s.ignoreGate := rfl
@[simp] theorem enterWait_prevMask (s : State) : (enterWait s).prevMask = s.prevMask := rfl
@[simp] theorem enterWait_firstSample (s : State) : (enterWait s).firstSample = s.firstSample := rfl
@[simp] theorem enterWait_poLatch (s : State) : (enterWait s).poLatch = s.poLatch := rfl
@[simp] theorem enterWait_mode (s : State) : (enterWait s).mode = s.mode := rfl
@[simp] theorem enterWait_cfg (s : State) : (enterWait s).cfg = s.cfg := rfl
@[simp] theorem enterWait_map (s : State) : (enterWait s).map = s.map := rfl
@[simp] theorem enterWait_listing (s : State) : (enterWait s).listing = s.listing := rfl
@[simp] theorem enterWait_mapWords (s : State) : (enterWait s).mapWords = s.mapWords := rfl
@[simp] theorem enterWait_events (s : State) : (enterWait s).events = s.events := rfl

/-! The fields after `startSession`. -/

@[simp] theorem startSession_out (s : State) : (startSession s).out = Config.outReset := rfl
@[simp] theorem startSession_table (s : State) : (startSession s).table = [] := rfl
@[simp] theorem startSession_cycleIdx (s : State) : (startSession s).cycleIdx = 0 := rfl
@[simp] theorem startSession_polled (s : State) : (startSession s).polled = false := rfl
@[simp] theorem startSession_pollState (s : State) : (startSession s).pollState = .selfTimed := rfl
@[simp] theorem startSession_fgPhase (s : State) : (startSession s).fgPhase = .compute := rfl
@[simp] theorem startSession_waitCtr (s : State) : (startSession s).waitCtr = 0 := rfl
@[simp] theorem startSession_speed (s : State) : (startSession s).speed = 0 := rfl
@[simp] theorem startSession_phase (s : State) : (startSession s).phase = false := rfl
@[simp] theorem startSession_countdown (s : State) : (startSession s).countdown = 0 := rfl
@[simp] theorem startSession_ignoreGate (s : State) : (startSession s).ignoreGate = true := rfl
@[simp] theorem startSession_prevMask (s : State) : (startSession s).prevMask = 0 := rfl
@[simp] theorem startSession_firstSample (s : State) : (startSession s).firstSample = true := rfl
@[simp] theorem startSession_poLatch (s : State) : (startSession s).poLatch = false := rfl
@[simp] theorem startSession_mode (s : State) : (startSession s).mode = .c3 := rfl
@[simp] theorem startSession_cfg (s : State) : (startSession s).cfg = s.cfg := rfl
@[simp] theorem startSession_map (s : State) : (startSession s).map = s.map := rfl
@[simp] theorem startSession_listing (s : State) : (startSession s).listing = s.listing := rfl
@[simp] theorem startSession_mapWords (s : State) : (startSession s).mapWords = s.mapWords := rfl
@[simp] theorem startSession_events (s : State) : (startSession s).events = s.events := rfl

end Sys2Proof.Machine
end

