-- ==== Sys2Proof/Laws/Ops.lean ====
section
/-! SUPPORT. The table space: reading what was written, and the canonical form. -/

namespace Sys2Proof.Machine

theorem mem_slots (i : Slot) : i ∈ slots := by revert i; decide

/-- A lookup in the canonical cells of a list of slots. -/
theorem lookup_filterMap (p : Slot → Byte) (l : List Slot) (i : Slot) :
    List.lookup i.val (l.filterMap fun j => if p j = Config.tReset j then none else some (j.val, p j)) =
      if i ∈ l ∧ p i ≠ Config.tReset i then some (p i) else none := by
  induction l with
  | nil => simp
  | cons j l ih =>
    by_cases hj : p j = Config.tReset j
    · rw [List.filterMap_cons_none (by simp [hj]), ih]
      by_cases hij : i = j
      · subst hij; simp [hj]
      · simp [hij]
    · rw [List.filterMap_cons_some (b := (j.val, p j)) (by simp [hj]), List.lookup_cons]
      by_cases hij : i = j
      · subst hij; simp [hj]
      · have hv : (i.val == j.val) = false := by simpa [Fin.ext_iff] using hij
        simp [hv, ih, hij]

/-- A table reads what was published into it. -/
@[simp] theorem read_ofSlots (p : Slot → Byte) (i : Slot) : (Memory.ofSlots p).read i = p i := by
  unfold Memory.read Memory.ofSlots
  rw [lookup_filterMap]
  by_cases h : p i = Config.tReset i <;> simp [mem_slots, h]

/-- A table with nothing listed reads the reset table. -/
@[simp] theorem read_nil (i : Slot) : Memory.read [] i = Config.tReset i := rfl

/-- What may stand in the canonical cells of a list of slots. -/
theorem mem_canonical (p : Slot → Byte) (l : List Slot) (c : Host.Cell)
    (h : c ∈ l.filterMap fun j => if p j = Config.tReset j then none else some (j.val, p j)) :
    ∃ j ∈ l, p j ≠ Config.tReset j ∧ c = (j.val, p j) := by
  obtain ⟨j, hj, hc⟩ := List.mem_filterMap.mp h
  by_cases hp : p j = Config.tReset j
  · simp [hp] at hc
  · exact ⟨j, hj, hp, by simpa [hp] using hc.symm⟩

/-- The one memory operation answers a table in canonical form. -/
@[simp] theorem ofSlots_wf (p : Slot → Byte) : (Memory.ofSlots p).wf = true := by
  have rising : slots.Pairwise fun a b => a.val < b.val := by decide
  simp only [Memory.wf, Bool.and_eq_true, decide_eq_true_eq, List.all_eq_true]
  refine ⟨?_, fun c hc => ?_⟩
  · refine List.Pairwise.filterMap _ ?_ rising
    intro a b hab c hc d hd
    by_cases ha : p a = Config.tReset a
    · simp [ha] at hc
    · by_cases hb : p b = Config.tReset b
      · simp [hb] at hd
      · simp only [ha, hb, if_false, Option.some.injEq] at hc hd
        subst hc; subst hd; exact hab
  · obtain ⟨j, -, hp, rfl⟩ := mem_canonical p slots c hc
    simp [Memory.cellOk, hp]

/-- The reset table is the one with nothing listed. -/
@[simp] theorem ofSlots_tReset : Memory.ofSlots Config.tReset = [] := by decide

/-- PUBLISH keeps the canonical form. -/
theorem publish_wf (p8 : Slot → Byte) (s : State) : (publish p8 s).table.wf = true := by simp

/-- The reset state's table has the canonical form. -/
theorem reset_wf : State.reset.table.wf = true := by decide

end Sys2Proof.Machine
end

