-- ==== Sys2Proof/Laws/Exec.lean ====
section
/-! SUPPORT. What each shared operation and each meaning can do, said once. -/

namespace Sys2Proof.Machine

/-! ITERATE, field by field. -/

theorem pressed_modeButton (m : ButtonMask) : pressed m modeButton = m.getLsbD 2 := rfl

@[simp] theorem iterate_fgPhase (m : ButtonMask) (sw : Bool) (s : State) : (iterate m sw s).fgPhase = .wait := rfl
@[simp] theorem iterate_waitCtr (m : ButtonMask) (sw : Bool) (s : State) : (iterate m sw s).waitCtr = 0 := rfl
@[simp] theorem iterate_cycleIdx (m : ButtonMask) (sw : Bool) (s : State) : (iterate m sw s).cycleIdx = s.cycleIdx := rfl
@[simp] theorem iterate_polled (m : ButtonMask) (sw : Bool) (s : State) : (iterate m sw s).polled = s.polled := rfl
@[simp] theorem iterate_pollState (m : ButtonMask) (sw : Bool) (s : State) : (iterate m sw s).pollState = s.pollState := rfl
@[simp] theorem iterate_cfg (m : ButtonMask) (sw : Bool) (s : State) : (iterate m sw s).cfg = s.cfg := rfl
@[simp] theorem iterate_map (m : ButtonMask) (sw : Bool) (s : State) : (iterate m sw s).map = s.map := rfl
@[simp] theorem iterate_listing (m : ButtonMask) (sw : Bool) (s : State) : (iterate m sw s).listing = s.listing := rfl
@[simp] theorem iterate_mapWords (m : ButtonMask) (sw : Bool) (s : State) : (iterate m sw s).mapWords = s.mapWords := rfl
@[simp] theorem iterate_events (m : ButtonMask) (sw : Bool) (s : State) : (iterate m sw s).events = s.events := rfl
@[simp] theorem iterate_firstSample (m : ButtonMask) (sw : Bool) (s : State) : (iterate m sw s).firstSample = false := rfl
@[simp] theorem iterate_prevMask (m : ButtonMask) (sw : Bool) (s : State) : (iterate m sw s).prevMask = m := rfl

@[simp] theorem iterate_poLatch (m : ButtonMask) (sw : Bool) (s : State) :
    (iterate m sw s).poLatch = if s.firstSample then m.getLsbD 2 else s.poLatch := rfl

@[simp] theorem iterate_mode (m : ButtonMask) (sw : Bool) (s : State) :
    (iterate m sw s).mode = if (if s.firstSample then m.getLsbD 2 else s.poLatch) || sw then .c3 else .s6 := rfl

@[simp] theorem iterate_ignoreGate (m : ButtonMask) (sw : Bool) (s : State) :
    (iterate m sw s).ignoreGate = (s.ignoreGate && decide (m ≠ 0)) := rfl

@[simp] theorem iterate_speed (m : ButtonMask) (sw : Bool) (s : State) :
    (iterate m sw s).speed = if speedEdge m s.prevMask s.map then s.speed + 1 else s.speed := rfl

@[simp] theorem iterate_countdown (m : ButtonMask) (sw : Bool) (s : State) :
    (iterate m sw s).countdown = if s.countdown ≤ 1 then div (iterate m sw s).speed else s.countdown - 1 := rfl

@[simp] theorem iterate_phase (m : ButtonMask) (sw : Bool) (s : State) :
    (iterate m sw s).phase = if s.countdown ≤ 1 then !s.phase else s.phase := rfl

/-- The published table: the build of the fragments under the updated gate and the old phase, in the new mode. -/
@[simp] theorem iterate_read (m : ButtonMask) (sw : Bool) (s : State) (i : Slot) :
    (iterate m sw s).table.read i =
      build (iterate m sw s).mode (buildFragments m (iterate m sw s).ignoreGate s.phase s.map) i :=
  read_ofSlots _ i

theorem iterate_wf (m : ButtonMask) (sw : Bool) (s : State) : (iterate m sw s).table.wf = true := ofSlots_wf _

theorem iterate_out (m : ButtonMask) (sw : Bool) (s : State) :
    (iterate m sw s).out =
      if s.cfg.outRefreshOnPublish then (iterate m sw s).table.read s.cycleIdx else s.out := by
  rw [iterate_read]; rfl

/-- `T_RESET` is the all-released table in C3 (the reason D21 gives). -/
theorem tReset_eq_build (i : Slot) : Config.tReset i = build .c3 .zero i := by revert i; decide

/-! WAIT_STEP. -/

/-- The three things a wait quantum can do, with what each requires. -/
theorem waitStep_cases (s : State) :
    (s.polled = true ∧ waitStep s = { s with polled := false, pollState := .hostPolled, fgPhase := .compute }) ∨
    (s.polled = false ∧ s.waitCtr + 1 = waitLimit s.cfg s.pollState ∧
      waitStep s = { s with pollState := .selfTimed, fgPhase := .compute, waitCtr := s.waitCtr + 1 }) ∨
    (s.polled = false ∧ s.waitCtr + 1 ≠ waitLimit s.cfg s.pollState ∧
      waitStep s = { s with waitCtr := s.waitCtr + 1 }) := by
  rcases Bool.eq_false_or_eq_true s.polled with hp | hp
  · exact .inl ⟨hp, by simp [waitStep, hp, pollSeen, consumePolled]⟩
  · by_cases hl : s.waitCtr + 1 = waitLimit s.cfg s.pollState
    · refine .inr (.inl ⟨hp, hl, ?_⟩)
      rw [waitStep, if_neg (by simp [hp]), if_pos hl]
      cases hs : s.pollState <;> simp [endWait, countQuantum, hs, selfPeriod, pollTimeout]
    · refine .inr (.inr ⟨hp, hl, ?_⟩)
      rw [waitStep, if_neg (by simp [hp]), if_neg hl]; rfl

/-! The meanings. -/

theorem exec_clk_compute {s : State} (h : s.fgPhase = .compute) (m : ButtonMask) (sw : Bool) :
    exec (.clk m sw) s = .next (iterate m sw s) := by simp [exec, execClk, h]

theorem exec_clk_wait {s : State} (h : s.fgPhase = .wait) (m : ButtonMask) (sw : Bool) :
    exec (.clk m sw) s = .next (waitStep s) := by simp [exec, execClk, h]

theorem exec_selEdge (l : Bool) (s : State) : exec (.selEdge l) s = .next (driveNextSlot s) := rfl

theorem exec_reset (s : State) : exec .reset s = .next (startSession s) := rfl

/-- An entry word is the entry added to an open listing, or a refusal of its button. -/
theorem exec_ofEntry (e : MapEntry) (s : State) : exec (.ofEntry e) s = addEntry e s := by
  obtain ⟨b, l, h, x, f⟩ := e
  cases f <;> rfl

theorem addEntry_ok {e : MapEntry} (h : e.ok = true) (s : State) :
    addEntry e s = .next { s with listing := s.listing.map fun es => es ++ [e] } := by simp [addEntry, h]

theorem addEntry_bad {e : MapEntry} (h : e.ok = false) (s : State) : addEntry e s = .refused .badMapEntry := by
  simp [addEntry, h]

/-- Every instruction is an event or a word of a listing. -/
theorem instr_cases (i : Instr) :
    (∃ m sw, i = .clk m sw) ∨ (∃ l, i = .selEdge l) ∨ i = .reset ∨ (∃ e, i = .ofEntry e) ∨ i = .mapend := by
  cases i with
  | clk m sw => exact .inl ⟨m, sw, rfl⟩
  | selEdge l => exact .inr (.inl ⟨l, rfl⟩)
  | reset => exact .inr (.inr (.inl rfl))
  | mapentNone b l h x => exact .inr (.inr (.inr (.inl ⟨⟨b, l, h, x, .plain⟩, rfl⟩)))
  | mapentTurbo b l h x => exact .inr (.inr (.inr (.inl ⟨⟨b, l, h, x, .turbo⟩, rfl⟩)))
  | mapentSpeedsel b l h x => exact .inr (.inr (.inr (.inl ⟨⟨b, l, h, x, .speedSelect⟩, rfl⟩)))
  | mapend => exact .inr (.inr (.inr (.inr rfl)))

/-- Everything `exec` can do when it answers a next state. -/
theorem exec_next_cases {i : Instr} {s t : State} (h : exec i s = .next t) :
    (∃ m sw, i = .clk m sw ∧ s.fgPhase = .compute ∧ t = iterate m sw s) ∨
    (∃ m sw, i = .clk m sw ∧ s.fgPhase = .wait ∧ t = waitStep s) ∨
    (∃ l, i = .selEdge l ∧ t = driveNextSlot s) ∨
    (i = .reset ∧ t = startSession s) ∨
    (∃ e, i = .ofEntry e ∧ e.ok = true ∧ t = { s with listing := s.listing.map fun es => es ++ [e] }) ∨
    (∃ es, i = .mapend ∧ s.listing = some es ∧ mapOk es = true ∧ t = { s with map := es, listing := none }) ∨
    (i = .mapend ∧ s.listing = none ∧ t = s) := by
  rcases instr_cases i with ⟨m, sw, rfl⟩ | ⟨l, rfl⟩ | rfl | ⟨e, rfl⟩ | rfl
  · cases hp : s.fgPhase with
    | compute =>
      rw [exec_clk_compute hp] at h
      exact .inl ⟨m, sw, rfl, rfl, by simpa using h.symm⟩
    | wait =>
      rw [exec_clk_wait hp] at h
      exact .inr (.inl ⟨m, sw, rfl, rfl, by simpa using h.symm⟩)
  · exact .inr (.inr (.inl ⟨l, rfl, by simpa [exec_selEdge] using h.symm⟩))
  · exact .inr (.inr (.inr (.inl ⟨rfl, by simpa [exec_reset] using h.symm⟩)))
  · rw [exec_ofEntry] at h
    cases he : e.ok with
    | false => simp [addEntry_bad he] at h
    | true =>
      rw [addEntry_ok he] at h
      exact .inr (.inr (.inr (.inr (.inl ⟨e, rfl, he, by simpa using h.symm⟩))))
  · simp only [exec, execMapend] at h
    split at h
    · rename_i es hl
      split at h
      · rename_i hok
        exact .inr (.inr (.inr (.inr (.inr (.inl ⟨es, rfl, hl, hok, by simpa using h.symm⟩)))))
      · simp at h
    · rename_i hl
      exact .inr (.inr (.inr (.inr (.inr (.inr ⟨rfl, hl, by simpa using h.symm⟩)))))

end Sys2Proof.Machine
end

