-- ==== Sys2Proof/Laws/PerInstr.lean ====
section
/-! SUPPORT. One lemma per constructor: the encoder's word has the fixed bits of the instruction's row of spec/opcode_table.json. -/

namespace Sys2Proof.Laws.RowMatch

/-- The row's `match` and `mask` hold of the instruction's word, in the row's stream. -/
def Statement (i : Instr) : Prop :=
  match i with
  | .clk _ _ => ∃ w, encode i = .event w ∧ w &&& 0xE000 = 0x0000
  | .selEdge _ => ∃ w, encode i = .event w ∧ w &&& 0xFFFE = 0x4000
  | .reset => ∃ w, encode i = .event w ∧ w &&& 0xFFFF = 0x8000
  | .mapentNone _ _ _ _ => ∃ w, encode i = .map w ∧ w &&& 0xF0000000 = 0x00000000
  | .mapentTurbo _ _ _ _ => ∃ w, encode i = .map w ∧ w &&& 0xF0000000 = 0x10000000
  | .mapentSpeedsel _ _ _ _ => ∃ w, encode i = .map w ∧ w &&& 0xF0000000 = 0x20000000
  | .mapend => ∃ w, encode i = .map w ∧ w &&& 0xFFFFFFFF = 0xFFFFFFFF

/-- The top four bits of an entry word are `00` and the flag. -/
theorem entryWord_row (f : BitVec 2) (b : BitVec 4) (l h x : Byte) :
    entryWord f b l h x &&& (0xF0000000 : MapWord) = f.setWidth 32 <<< 28 := by
  have top : ∀ j, j < 32 → (0xF0000000 : MapWord).getLsbD j = decide (28 ≤ j) := by decide
  refine BitVec.eq_of_getLsbD_eq fun k hk => ?_
  rw [BitVec.getLsbD_and, entryWord_getLsbD _ _ _ _ _ _ hk, top k hk, BitVec.getLsbD_shiftLeft, BitVec.getLsbD_setWidth]
  by_cases h28 : 28 ≤ k
  · simp [h28, hk, show ¬ k < 28 by omega, show k - 28 < 32 by omega]
  · simp [h28, show k < 28 by omega]

theorem clk (m : ButtonMask) (sw : Bool) : Statement (.clk m sw) := ⟨_, rfl, clkWord_code m sw⟩

theorem selEdge (l : Bool) : Statement (.selEdge l) := ⟨_, rfl, by cases l <;> rfl⟩

theorem reset : Statement .reset := ⟨_, rfl, rfl⟩

theorem mapentNone (b : BitVec 4) (l h x : Byte) : Statement (.mapentNone b l h x) :=
  ⟨_, rfl, (entryWord_row 0 b l h x).trans rfl⟩

theorem mapentTurbo (b : BitVec 4) (l h x : Byte) : Statement (.mapentTurbo b l h x) :=
  ⟨_, rfl, (entryWord_row 1 b l h x).trans rfl⟩

theorem mapentSpeedsel (b : BitVec 4) (l h x : Byte) : Statement (.mapentSpeedsel b l h x) :=
  ⟨_, rfl, (entryWord_row 2 b l h x).trans rfl⟩

theorem mapend : Statement .mapend := ⟨_, rfl, rfl⟩

end Sys2Proof.Laws.RowMatch
end

