-- ==== Sys2Proof/Laws/Step.lean ====
section
/-! SUPPORT. What a step can do, said once. -/

namespace Sys2Proof.Machine

/-- What taking a word does: nothing is waiting, or the head of the stream in use leaves it. -/
theorem fetch_cases (s : State) :
    (fetch s = none ∧ ((s.listing = none ∧ s.events = []) ∨ ∃ es, s.listing = some es ∧ s.mapWords = [])) ∨
    (∃ w ws, s.listing = none ∧ s.events = w :: ws ∧ fetch s = some (.event w, { s with events := ws })) ∨
    (∃ es w ws, s.listing = some es ∧ s.mapWords = w :: ws ∧ fetch s = some (.map w, { s with mapWords := ws })) := by
  cases hl : s.listing with
  | none => cases he : s.events <;> simp [fetch, hl, he]
  | some es => cases hm : s.mapWords <;> simp [fetch, hl, hm]

/-- A step that answers a next state idles, or executes the instruction it took. -/
theorem step_next_cases {s t : State} (h : step s = .next t) :
    t = s ∨
    (∃ w ws i, s.listing = none ∧ s.events = w :: ws ∧ decode (.event w) = .ok i ∧
      exec i { s with events := ws } = .next t) ∨
    (∃ es w ws i, s.listing = some es ∧ s.mapWords = w :: ws ∧ decode (.map w) = .ok i ∧
      exec i { s with mapWords := ws } = .next t) := by
  rcases fetch_cases s with ⟨hf, -⟩ | ⟨w, ws, hl, he, hf⟩ | ⟨es, w, ws, hl, hm, hf⟩
  · exact .inl (by simpa [step, hf] using h.symm)
  · simp only [step, hf] at h
    split at h
    · rename_i i hd
      exact .inr (.inl ⟨w, ws, i, hl, he, hd, h⟩)
    · simp at h
  · simp only [step, hf] at h
    split at h
    · rename_i i hd
      exact .inr (.inr ⟨es, w, ws, i, hl, hm, hd, h⟩)
    · simp at h

/-- A placed word is the next one taken, and the rest of its stream is as before. -/
theorem fetch_place (iw : InputWord) (s : State) :
    fetch (place iw s) = some (iw, match iw with
      | .event _ => { s with listing := none }
      | .map _ => { s with listing := some (s.listing.getD s.map) }) := by
  cases iw <;> simp [fetch, place]

end Sys2Proof.Machine
end

