-- ==== Sys2Proof/Tests/Slice0.lean ====
section
/-! SUPPORT. Small tests with expected values from the vectors of spec/95_test_vectors.md, and a witness for the hypotheses of every statement. -/

namespace Sys2Proof.Tests

open Sys2Proof.Machine

/-- The spec's test map TM1, entry by entry as its table writes it (not the source's map). -/
def tm1 : List MapEntry :=
  [⟨8, 0x02, 0x00, 0x00, .plain⟩, ⟨3, 0x01, 0x00, 0x00, .plain⟩, ⟨0, 0x00, 0x02, 0x00, .plain⟩,
   ⟨9, 0x00, 0x01, 0x00, .plain⟩, ⟨4, 0x20, 0x20, 0x00, .plain⟩, ⟨5, 0x10, 0x10, 0x00, .plain⟩,
   ⟨6, 0x00, 0x08, 0x00, .plain⟩, ⟨7, 0x00, 0x04, 0x00, .plain⟩, ⟨1, 0x00, 0x00, 0x04, .plain⟩,
   ⟨10, 0x00, 0x00, 0x08, .plain⟩, ⟨10, 0x02, 0x00, 0x00, .turbo⟩, ⟨11, 0x00, 0x00, 0x10, .speedSelect⟩,
   ⟨2, 0x00, 0x00, 0x20, .plain⟩]

/-- The map of vector L2-E15, which fails the check on A's entries. -/
def badMap : List MapEntry := [⟨8, 0x02, 0x00, 0x00, .plain⟩, ⟨8, 0x01, 0x00, 0x00, .turbo⟩]

/-- S0 of spec/95 under TM1. -/
def s0 : State := { State.reset with map := tm1 }

/-- A later iteration's start: gate open, phase true, countdown and speed at the ends of their ranges. -/
def mid : State :=
  { s0 with ignoreGate := false, firstSample := false, phase := true, countdown := 1, speed := 5, mode := .s6 }

/-- A wait in the given detector state, count and flag (section 2.6 of spec/95). -/
def waiting (p : PollState) (c : Nat) (polled : Bool) : State :=
  { mid with fgPhase := .wait, pollState := p, waitCtr := c, polled := polled, mode := .c3 }

/-- A listing being read. -/
def reading (es : List MapEntry) : State := { s0 with listing := some es }

/-- The next state of an outcome. -/
def nextOf : Host.Outcome State Fault Refusal → Option State
  | .next t => some t
  | .fault _ => none
  | .refused _ => none

/-- The refusal of an outcome. -/
def refusalIn : Host.Outcome State Fault Refusal → Option Refusal
  | .next _ => none
  | .fault _ => none
  | .refused r => some r

/-- The bytes of a table, slot 0 first. -/
def bytes (m : Memory) : List Byte := slots.map m.read

/-! Well-formedness: the check on each entry word refuses a button index of 12. -/

theorem test_wf_refuses_button_twelve :
    (Instr.mapentNone 12 0 0 0).wf = false ∧ (Instr.mapentTurbo 12 0 0 0).wf = false ∧
    (Instr.mapentSpeedsel 12 0 0 0).wf = false := by decide

/-! Decoding: words written out bit by bit from 30_encoding.md R43 to R45, R48, R49. -/

theorem test_decode_clk : decode (.event 0b0001110000000000) = .ok (.clk 0xC00 true) := by decide
theorem test_decode_sel_edge : decode (.event 0b0100000000000000) = .ok (.selEdge false) := by decide
theorem test_decode_reset : decode (.event 0b1000000000000000) = .ok .reset := by decide
theorem test_decode_mapent_none :
    decode (.map 0b00000100001000000010000000000001) = .ok (.mapentNone 4 0x01 0x20 0x20) := by decide
theorem test_decode_mapent_turbo :
    decode (.map 0b00011010000010000000000000000010) = .ok (.mapentTurbo 10 0x02 0x00 0x08) := by decide
theorem test_decode_mapent_speedsel :
    decode (.map 0b00101011000100000000010000000001) = .ok (.mapentSpeedsel 11 0x01 0x04 0x10) := by decide
theorem test_decode_mapend : decode (.map 0b11111111111111111111111111111111) = .ok .mapend := by decide

/-- L2-E7 to L2-E10. -/
theorem test_decode_reserved_events :
    ([0x2000, 0x3FFF, 0x4002, 0x7FFF, 0x8001, 0xBFFF, 0xC000, 0xFFFF].all fun w =>
      decide (decode (.event w) = .error .reservedEvent)) = true := by decide

/-- L2-E12 to L2-E14. -/
theorem test_decode_bad_map_words :
    ([0x0C000000, 0x30000000, 0x48000002].all fun w => decide (decode (.map w) = .error .badMapEntry)) = true := by
  decide

/-- TM1's words as the spec lists them are the words of its entries. -/
theorem test_tm1_words : tm1.map mapWordOf =
    [0x08000002, 0x03000001, 0x00000200, 0x09000100, 0x04002020, 0x05001010, 0x06000800, 0x07000400,
     0x01040000, 0x0A080000, 0x1A000002, 0x2B100000, 0x02200000] := by decide

/-! One step each. -/

/-- All buttons in S6 with phase true (L2-M12, L2-F8), speed 5 wraps to 0 (L2-T6), a tick at countdown 1 (L2-T7). -/
theorem test_clk_iteration :
    (nextOf (exec (.clk 0xFFF false) mid)).map (fun t => (bytes t.table, t.speed, t.countdown, t.phase, t.prevMask)) =
      some ([0xC0, 0xC0, 0xC0, 0xC0, 0xC0, 0xC0, 0xC3, 0xFC], 0, 2, false, 0xFFF) := by decide

/-- L2-P7: the flag wins over the expiring count. -/
theorem test_clk_wait_flag_wins :
    (nextOf (exec (.clk 0 false) (waiting .hostPolled 2 true))).map
      (fun t => (t.pollState, t.polled, t.fgPhase, t.waitCtr)) = some (.hostPolled, false, .compute, 2) := by decide

/-- L2-D1. -/
theorem test_sel_edge_before_first_clk :
    (nextOf (exec (.selEdge false) s0)).map (fun t => (t.cycleIdx, t.out, t.polled)) = some (1, 0xF3, true) := by decide

/-- L2-D2. -/
theorem test_sel_edge_wraps :
    (nextOf (exec (.selEdge true) { mid with cycleIdx := 7 })).map (fun t => (t.cycleIdx, t.out, t.polled)) =
      some (0, 0xFF, true) := by decide

/-- L2-S5. -/
theorem test_reset_gives_s0 :
    nextOf (exec .reset { waiting .hostPolled 1 true with table := [(1, 0x00)], cycleIdx := 3, out := 0 }) = some s0 := by
  decide

theorem test_mapent_none :
    (nextOf (exec (.mapentNone 0 0x00 0x02 0x00) (reading []))).map (·.listing) =
      some (some [⟨0, 0x00, 0x02, 0x00, .plain⟩]) := by decide

theorem test_mapent_turbo :
    (nextOf (exec (.mapentTurbo 10 0x02 0x00 0x00) (reading []))).map (·.listing) =
      some (some [⟨10, 0x02, 0x00, 0x00, .turbo⟩]) := by decide

theorem test_mapent_speedsel :
    (nextOf (exec (.mapentSpeedsel 11 0x00 0x00 0x10) (reading []))).map (·.listing) =
      some (some [⟨11, 0x00, 0x00, 0x10, .speedSelect⟩]) := by decide

/-- TM1 passes the check. -/
theorem test_mapend_installs : nextOf (exec .mapend { reading tm1 with map := [] }) = some s0 := by decide

/-- L2-E15, L2-E16. -/
theorem test_mapend_refuses :
    refusalIn (exec .mapend (reading badMap)) = some .badMap ∧ refusalIn (exec .mapend (reading [])) = some .badMap := by
  decide

/-- A placed word is the very next one the machine runs, from the reset state. -/
theorem test_first_words_after_reset :
    (nextOf (step (State.reset.withFetchWord 16 0x0100))).map (·.prevMask) = some 0x100 ∧
    (nextOf (step (State.reset.withFetchWord 16 0x4000))).map (·.out) = some 0xF3 ∧
    nextOf (step (State.reset.withFetchWord 16 0x8000)) = some State.reset ∧
    (nextOf (step (State.reset.withFetchWord 32 0x08000002))).map (·.listing) =
      some (some (Config.map ++ [⟨8, 2, 0, 0, .plain⟩])) ∧
    nextOf (step (State.reset.withFetchWord 32 0xFFFFFFFF)) = some State.reset := by decide

theorem test_decode_table_words :
    decodeTableWord 16 0x1100 = some (.clk 0x100 true) ∧ decodeTableWord 32 0x1A000002 = some (.mapentTurbo 10 2 0 0) ∧
    decodeTableWord 16 0xC000 = none := by decide

/-! Witnesses: states and operands that meet all hypotheses of each statement that has any. -/

/-- The invariant of a state whose table is the all-released C3 table, by its parts that can be computed. -/
theorem inv_of_reset_table (s : State) (h : s.table = []) (hm : s.mode = .c3)
    (hc : decide (s.cfg.ok) = true ∧ mapOk s.map = true ∧ s.listing = none ∧
      (s.fgPhase = .wait → s.waitCtr < waitLimit s.cfg s.pollState) ∧ s.waitCtr ≤ s.cfg.waitMax ∧
      s.firstSample = false ∧ s.cfg.outRefreshOnPublish = false) : Inv s where
  params_ok := of_decide_eq_true hc.1
  map_ok := hc.2.1
  listing_ok := by simp [hc.2.2.1]
  table_wf := by rw [h]; decide
  table_framed := ⟨.zero, fun i => by rw [h, hm]; exact tReset_eq_build i⟩
  wait_below_limit := hc.2.2.2.1
  wait_bounded := hc.2.2.2.2.1
  latch_forces_compat := fun _ => hm
  first_sample_fresh := by simp [hc.2.2.2.2.2.1]
  refreshed_out := by simp [hc.2.2.2.2.2.2]

theorem witness_inv : Inv (waiting .hostPolled 2 false) := inv_of_reset_table _ rfl rfl (by decide)

theorem witness_DecodeOfEncodeIsIdentity : (Instr.mapentTurbo 11 0xFF 0 0x80).wf = true := by decide

theorem witness_AcceptedWordsAreEncodings :
    decode (.event 0x1FFF) = .ok (.clk 0xFFF true) ∧ decode (.map 0x2BFF00FF) = .ok (.mapentSpeedsel 11 0xFF 0 0xFF) := by
  decide

theorem witness_StepRunsTheDecodedInstruction :
    (let s := { s0 with events := [0x1100, 0x4000] }
     s.listing = none ∧ s.events = 0x1100 :: [0x4000] ∧ decode (.event 0x1100) = .ok (.clk 0x100 true)) ∧
    (let s := { reading [] with mapWords := [0x08000002, 0xFFFFFFFF] }
     s.listing = some [] ∧ s.mapWords = 0x08000002 :: [0xFFFFFFFF] ∧
       decode (.map 0x08000002) = .ok (.mapentNone 8 2 0 0)) := by decide

theorem witness_StepRefusesWordsThatDoNotDecode :
    (let s := { s0 with events := [0xC000] }
     s.listing = none ∧ s.events = 0xC000 :: [] ∧ decode (.event 0xC000) = .error .reservedEvent) ∧
    (let s := { reading [] with mapWords := [0x0C000000] }
     s.listing = some [] ∧ s.mapWords = 0x0C000000 :: [] ∧ decode (.map 0x0C000000) = .error .badMapEntry) := by decide

theorem witness_EventStreamRunsItsInstructions :
    ∀ i ∈ [Instr.reset, .clk 0x100 false, .selEdge true], i.isEvent = true := by decide

/-- Both branches: a listing that is installed and one that is refused. -/
theorem witness_MapListingInstallsItsEntries :
    ((∀ e ∈ tm1, e.ok = true) ∧ (reading []).listing = some [] ∧ mapOk tm1 = true) ∧
    ((∀ e ∈ badMap, e.ok = true) ∧ mapOk badMap = false) := by decide

/-- An event, and a refused step of each kind. -/
theorem witness_EveryEventHasANextState :
    (Instr.selEdge true).isEvent = true ∧
    refusalIn (step { s0 with events := [0xC000] }) = some .reservedEvent ∧
    refusalIn (step { reading [] with mapWords := [0x30000000] }) = some .badMapEntry ∧
    refusalIn (step { reading badMap with mapWords := [0xFFFFFFFF] }) = some .badMap := by decide

theorem witness_SelEdgeLeavesAllElse : exec (.selEdge true) mid = .next (driveNextSlot mid) := rfl

theorem witness_CycleIndexCountsEdgesModuloEight :
    ∀ i ∈ List.replicate 9 (Instr.selEdge true) ++ [.clk 1 false], i.inSession = true := by decide

theorem witness_EdgeReadsOldTableBeforeAndNewTableAfterAPublish :
    mid.fgPhase = .compute ∧ mid.cfg.outRefreshOnPublish = false := by decide

theorem witness_EdgesMergeIntoOneConsumedFlag :
    [Instr.selEdge true, .selEdge false] ≠ [] ∧ (∀ i ∈ [Instr.selEdge true, .selEdge false], i.isEdge = true) ∧
    (waiting .selfTimed 1 false).fgPhase = .wait := by decide

/-- At the count where the limit would expire. -/
theorem witness_FlagEndsAWait :
    (waiting .hostPolled 2 true).fgPhase = .wait ∧ (waiting .hostPolled 2 true).polled = true := by decide

theorem witness_PollTimeoutFallsBackToSelfTimed :
    (let s := waiting .hostPolled 2 false
     s.fgPhase = .wait ∧ s.pollState = .hostPolled ∧ s.polled = false ∧ s.waitCtr + 1 = s.cfg.nPollTimeout) := by decide

theorem witness_SelfPeriodEndsASelfTimedWait :
    (let s := waiting .selfTimed 1 false
     s.fgPhase = .wait ∧ s.pollState = .selfTimed ∧ s.polled = false ∧ s.waitCtr + 1 = s.cfg.nSelfPeriod) := by decide

/-- In HostPolled at the other state's limit (L2-P8), and in SelfTimed at the start. -/
theorem witness_WaitCountsUpBelowItsLimit :
    ([waiting .hostPolled 1 false, waiting .selfTimed 0 false].all fun s =>
      decide (s.fgPhase = .wait ∧ s.polled = false ∧
        (s.pollState = .selfTimed → s.waitCtr + 1 ≠ s.cfg.nSelfPeriod) ∧
        (s.pollState = .hostPolled → s.waitCtr + 1 ≠ s.cfg.nPollTimeout))) = true := by decide

theorem witness_WaitLeavesAllElseAndIgnoresItsFields :
    (waiting .selfTimed 1 false).fgPhase = .wait ∧
    exec (.clk 5 true) (waiting .selfTimed 1 false) = .next (waitStep (waiting .selfTimed 1 false)) := ⟨rfl, rfl⟩

/-- Both clauses: as many events as the limit, and one more. -/
theorem witness_SilenceRevertsToSelfTimedExactlyOnce :
    (let s := { mid with pollState := .hostPolled }
     s.pollState = .hostPolled ∧ s.fgPhase = .compute ∧ s.polled = false ∧ 1 ≤ s.cfg.nPollTimeout ∧
     (∀ i ∈ List.replicate 4 (Instr.clk 0 false), i.isClk = true) ∧
     (List.replicate 3 (Instr.clk 0 false)).length ≤ s.cfg.nPollTimeout ∧
     s.cfg.nPollTimeout + 1 ≤ (List.replicate 4 (Instr.clk 0 false)).length) := by decide

theorem witness_SelfTimedIterationsFallOnAFixedPeriod :
    mid.pollState = .selfTimed ∧ mid.fgPhase = .compute ∧ mid.polled = false ∧ 1 ≤ mid.cfg.nSelfPeriod ∧
    ∀ i ∈ List.replicate 4 (Instr.clk 0 false), i.isClk = true := by decide

theorem witness_ForegroundNeverStalls :
    Inv (waiting .hostPolled 2 false) ∧
    (∀ i ∈ Instr.selEdge true :: List.replicate 4 (.clk 0 false), i.inSession = true) ∧
    (waiting .hostPolled 2 false).cfg.waitMax + 1 ≤
      (Instr.selEdge true :: List.replicate 4 (.clk 0 false)).countP Instr.isClk := ⟨witness_inv, by decide, by decide⟩

theorem witness_WaitCounterFitsItsWidth :
    Inv (waiting .hostPolled 2 false) ∧
    max (waiting .hostPolled 2 false).cfg.nPollTimeout (waiting .hostPolled 2 false).cfg.nSelfPeriod < 2 ^ 2 :=
  ⟨witness_inv, by decide⟩

/-- IterationEffect, ModeFollowsLatchAndSwitch, SpeedEdgeAdvancesSpeedModuloSix (both clauses) and TickReloadsAndFlipsOrCountsDown (both clauses, at 0, 1 and 2). -/
theorem witness_iterations :
    mid.fgPhase = .compute ∧ s0.fgPhase = .compute ∧
    speedEdge 0x800 mid.prevMask mid.map = true ∧ speedEdge 0x400 mid.prevMask mid.map = false ∧
    s0.countdown.val ≤ 1 ∧ mid.countdown.val ≤ 1 ∧ 2 ≤ ({ mid with countdown := 2 } : State).countdown.val := by decide

/-- IterationLeavesAllElse, ShutGatePublishesTheAllReleasedTable and SixButtonTableFromTheFragments. -/
theorem witness_iteration_in_s6 :
    s0.fgPhase = .compute ∧ exec (.clk 0x100 false) s0 = .next (iterate 0x100 false s0) ∧
    s0.cfg.outRefreshOnPublish = false ∧ (iterate 0x100 false s0).ignoreGate = true ∧
    (iterate 0x100 false s0).mode = .s6 := ⟨rfl, rfl, rfl, rfl, rfl⟩

/-- ThreeButtonTableFromTheFragments (both parities) and ThreeButtonTableNeverRevealsExtra. -/
theorem witness_iteration_in_c3 :
    mid.fgPhase = .compute ∧ exec (.clk 0xC02 true) mid = .next (iterate 0xC02 true mid) ∧
    (iterate 0xC02 true mid).mode = .c3 ∧ (6 : Slot).val % 2 = 0 ∧ (7 : Slot).val % 2 = 1 ∧
    (tm1.map fun e => { e with extra := 0xFF - e.extra }).map (fun e => { e with extra := 0 }) =
      mid.map.map (fun e => { e with extra := 0 }) ∧
    exec (.clk 0xC02 true) { mid with map := tm1.map fun e => { e with extra := 0xFF - e.extra } } =
      .next (iterate 0xC02 true { mid with map := tm1.map fun e => { e with extra := 0xFF - e.extra } }) :=
  ⟨rfl, rfl, rfl, rfl, rfl, by decide, rfl⟩

/-- Z, the speed button of TM1, is held from the sample before on; the edge and the wait quantum with Z released make no rise either. -/
theorem witness_PhaseFlipsOnceEveryDivisorIterations :
    (let s := { mid with countdown := 4, prevMask := 0x800 }
     (∀ i ∈ [Instr.clk 0x800 false, .selEdge true, .clk 0 false], i.inSession = true) ∧
     s.countdown = div s.speed ∧
     NoSpeedEdge [.clk 0x800 false, .selEdge true, .clk 0 false] s) :=
  ⟨by decide, by decide, by decide, fun _ h => by cases h; exact ⟨rfl, fun _ h => by cases h; exact ⟨by decide, fun _ _ => trivial⟩⟩⟩

theorem witness_MapOrderHasNoEffect : tm1.Perm tm1.reverse := tm1.reverse_perm.symm

theorem witness_MorePressedButtonsClearNoFragmentBit : (0x211 : ButtonMask) &&& 0xA11 = 0x211 := by decide

theorem witness_ButtonAScenarioUnderEveryWellFormedMap : mapOk tm1 = true := by decide

/-- Each clause, slot 4 being the last of the shared slots. -/
theorem witness_FramingsShareAPrefixAndSlotsReadTheirFragment :
    (4 : Slot).val < 5 ∧ (⟨1, 2, 4⟩ : Fragments).extra = (⟨9, 9, 4⟩ : Fragments).extra ∧
    (⟨0, 0xFC, 0⟩ : Fragments).high &&& 0x03 = (⟨0, 0x00, 9⟩ : Fragments).high &&& 0x03 := by decide

/-- Both clauses: a RESET, and another instruction that clears the gate. -/
theorem witness_IgnoreGateClearsAtTheFirstReleasedSampleOnly :
    exec .reset mid = .next (startSession mid) ∧ exec (.clk 0 false) s0 = .next (iterate 0 false s0) ∧
    Instr.clk 0 false ≠ .reset := ⟨rfl, rfl, by decide⟩

/-- FirstTableOfASessionIsAllReleased and PowerOnLatchIsStickyForTheSession. -/
theorem witness_first_table :
    (∀ i ∈ [Instr.selEdge false], i.isEdge = true) ∧
    (∀ i ∈ [Instr.clk 0 false, .selEdge true], i.inSession = true) := by decide

theorem witness_OutChangesOnlyAtEdgesAndReset :
    s0.cfg.outRefreshOnPublish = false ∧ exec (.selEdge true) s0 = .next (driveNextSlot s0) ∧
    (driveNextSlot s0).out ≠ s0.out := ⟨rfl, rfl, by decide⟩

theorem witness_EntryWordsExtendAnOpenListing :
    (reading badMap).listing = some badMap ∧ (11 : BitVec 4).toNat < 12 := by decide

theorem witness_WordsAfterTheSentinelChangeNothing : s0.listing = none ∧ (11 : BitVec 4).toNat < 12 := by decide

theorem witness_EntryWordsWithoutAButtonAreRefused : 12 ≤ (12 : BitVec 4).toNat := by decide

/-- Both clauses: a map that is installed, and one whose Turbo entry breaks A's value. -/
theorem witness_SentinelInstallsAWellFormedMapOnly :
    (reading tm1).listing = some tm1 ∧ (∀ e ∈ tm1, e.btn.toNat < 12) ∧
    (tm1.filter fun e => decide (e.btn = 8 ∧ e.flag ≠ .turbo)).foldr (fun e x => e.low ||| x) 0 = (0x02 : Byte) ∧
    (tm1.filter fun e => decide (e.btn = 8)).foldr (fun e x => e.low ||| x) 0 = (0x02 : Byte) ∧
    (∀ e ∈ tm1.filter fun e => decide (e.btn = 8), e.high = 0 ∧ e.extra = 0) ∧
    (reading badMap).listing = some badMap ∧
    (badMap.filter fun e => decide (e.btn = 8)).foldr (fun e x => e.low ||| x) 0 ≠ (0x02 : Byte) := by decide

theorem witness_MapWordsLeaveTheRecord :
    (Instr.mapentNone 8 2 0 0).isEvent = false ∧ Instr.mapentNone 8 2 0 0 ≠ .mapend ∧
    (nextOf (exec (.mapentNone 8 2 0 0) (reading []))).isSome = true ∧
    (nextOf (exec .mapend (reading tm1))).isSome = true := by decide

theorem witness_EventsNeverWriteTheConfiguration :
    (Instr.selEdge true).isEvent = true ∧ exec (.selEdge true) mid = .next (driveNextSlot mid) := ⟨rfl, rfl⟩

theorem witness_TablesThatReadAlikeAreEqual :
    Memory.wf [(1, 0xF1), (5, 0xC1)] = true ∧
    ∀ i, Memory.read [(1, 0xF1), (5, 0xC1)] i = Memory.read [(1, 0xF1), (5, 0xC1)] i := by decide

theorem witness_EveryStepKeepsTheInvariant :
    Inv { waiting .hostPolled 2 false with events := [0x0000] } ∧
    (nextOf (step { waiting .hostPolled 2 false with events := [0x0000] })).isSome = true :=
  ⟨inv_of_reset_table _ rfl rfl (by decide), by decide⟩

end Sys2Proof.Tests
end

section
/-! Proofs about the state record (10_state.md): the gate `ignore_gate` of R23. -/

namespace Sys2Proof.Machine

/-- A wait quantum samples nothing, so it leaves the gate (R53). -/
@[simp] theorem waitStep_ignoreGate (s : State) : (waitStep s).ignoreGate = s.ignoreGate := by
  rcases waitStep_cases s with ⟨-, h⟩ | ⟨-, -, h⟩ | ⟨-, -, h⟩ <;> rw [h]

/-- Only the sample of an iteration touches the gate outside RESET: every other meaning leaves it (R23, R59). -/
theorem exec_ignoreGate_of_not_compute_clk {i : Instr} {s t : State} (h : exec i s = .next t)
    (hreset : i ≠ .reset) (hclk : ¬ (s.fgPhase = .compute ∧ ∃ m sw, i = .clk m sw)) :
    t.ignoreGate = s.ignoreGate := by
  rcases exec_next_cases h with ⟨m, sw, rfl, hc, -⟩ | ⟨_, _, -, -, rfl⟩ | ⟨_, -, rfl⟩ | ⟨rfl, -⟩ |
    ⟨_, -, -, rfl⟩ | ⟨_, -, -, -, rfl⟩ | ⟨-, -, rfl⟩
  · exact absurd ⟨hc, m, sw, rfl⟩ hclk
  · exact waitStep_ignoreGate s
  · exact driveNextSlot_ignoreGate s
  · exact absurd rfl hreset
  all_goals rfl

end Sys2Proof.Machine

namespace Sys2Proof

open Machine

/-- Settles O40: a `CLK` in COMPUTE conjoins the gate with "some button is pressed"; RESET sets it; every other instruction leaves it. -/
theorem ignoreGateClearsAtTheFirstReleasedSampleOnly :
    Obligations.IgnoreGateClearsAtTheFirstReleasedSampleOnly := by
  refine ⟨fun s t h => ?_, fun i s t h hreset => ?_⟩
  · obtain rfl : startSession s = t := by simpa [exec_reset] using h
    exact startSession_ignoreGate s
  · by_cases hclk : s.fgPhase = .compute ∧ ∃ m sw, i = .clk m sw
    · obtain ⟨hc, m, sw, rfl⟩ := hclk
      obtain rfl : iterate m sw s = t := by simpa [exec_clk_compute hc] using h
      simp [hc]
    · have hzero : ¬ (s.fgPhase = .compute ∧ ∃ sw, i = .clk 0 sw) :=
        fun ⟨hc, hsw⟩ => hclk ⟨hc, 0, hsw⟩
      rw [exec_ignoreGate_of_not_compute_clk h hreset hclk, and_iff_left hzero]

end Sys2Proof
end

section
/-! Proofs about ButtonMapper (41_button_mapper.md): BUILD_FRAGMENTS, bit by bit. -/

namespace Sys2Proof.Machine

/-- A reading of one bit of the fragments: nothing is set in the zero fragments, and OR sets what either side sets. -/
structure Fragments.IsBit (bit : Fragments → Bool) : Prop where
  zero : bit .zero = false
  or : ∀ f g, bit (f.or g) = (bit f || bit g)

theorem Fragments.isBit_low (j : Nat) : Fragments.IsBit fun f => f.low.getLsbD j :=
  ⟨BitVec.getLsbD_zero, fun _ _ => BitVec.getLsbD_or⟩

theorem Fragments.isBit_high (j : Nat) : Fragments.IsBit fun f => f.high.getLsbD j :=
  ⟨BitVec.getLsbD_zero, fun _ _ => BitVec.getLsbD_or⟩

theorem Fragments.isBit_extra (j : Nat) : Fragments.IsBit fun f => f.extra.getLsbD j :=
  ⟨BitVec.getLsbD_zero, fun _ _ => BitVec.getLsbD_or⟩

/-- When an entry is ORed in (R60). -/
theorem contributes_iff {m : ButtonMask} {gate phase : Bool} {e : MapEntry} :
    contributes m gate phase e = true ↔
      m.getLsbD e.btn.toNat = true ∧ gate = false ∧ (e.flag = .turbo → phase = true) := by
  simp [contributes, pressed, and_assoc, imp_iff_not_or]

/-- BUILD_FRAGMENTS is the OR of the entries that contribute. -/
theorem buildFragments_eq_orAll_filter (m : ButtonMask) (gate phase : Bool) (map : List MapEntry) :
    buildFragments m gate phase map = orAll (map.filter (contributes m gate phase)) :=
  List.foldl_filter.symm

/-- A bit of an OR accumulated from `f` on is set in `f` or in some entry. -/
theorem Fragments.IsBit.foldl_or_eq_any {bit : Fragments → Bool} (hbit : Fragments.IsBit bit)
    (es : List MapEntry) (f : Fragments) :
    bit (es.foldl (fun f e => f.or (.ofEntry e)) f) = (bit f || es.any fun e => bit (.ofEntry e)) := by
  induction es generalizing f with
  | nil => simp
  | cons e es ih => rw [List.foldl_cons, ih, hbit.or, List.any_cons, Bool.or_assoc]

theorem Fragments.IsBit.orAll_eq_any {bit : Fragments → Bool} (hbit : Fragments.IsBit bit)
    (es : List MapEntry) : bit (orAll es) = es.any fun e => bit (.ofEntry e) := by
  rw [orAll, hbit.foldl_or_eq_any, hbit.zero, Bool.false_or]

/-- R60 for any one bit of the fragments: it is set exactly if an entry that contributes has it. -/
theorem Fragments.IsBit.buildFragments_iff {bit : Fragments → Bool} (hbit : Fragments.IsBit bit)
    (m : ButtonMask) (gate phase : Bool) (map : List MapEntry) :
    bit (buildFragments m gate phase map) = true ↔
      ∃ e ∈ map, m.getLsbD e.btn.toNat = true ∧ gate = false ∧ (e.flag = .turbo → phase = true) ∧
        bit (.ofEntry e) = true := by
  rw [buildFragments_eq_orAll_filter, hbit.orAll_eq_any]
  simp only [List.any_eq_true, List.mem_filter, contributes_iff, and_assoc]

end Sys2Proof.Machine

namespace Sys2Proof

open Machine

/-- Settles O32: one law of a fragment bit, read in each of the three fragments. -/
theorem fragmentsAreTheOrOfActiveEntries : Obligations.FragmentsAreTheOrOfActiveEntries :=
  fun m gate phase map j =>
    ⟨(Fragments.isBit_low j).buildFragments_iff m gate phase map,
      (Fragments.isBit_high j).buildFragments_iff m gate phase map,
      (Fragments.isBit_extra j).buildFragments_iff m gate phase map⟩

end Sys2Proof
end

section
/-! Proofs about TurboEngine (42_turbo_engine.md): SPEED_ADVANCE within an iteration (R65). -/

namespace Sys2Proof.Machine

/-- A sample with a speed edge takes the next of the six settings, the last wrapping to the first (R65). -/
theorem iterate_speed_val_of_speedEdge {m : ButtonMask} {s : State}
    (h : speedEdge m s.prevMask s.map = true) (sw : Bool) :
    (iterate m sw s).speed.val = (s.speed.val + 1) % 6 := by
  rw [iterate_speed, if_pos h, Fin.val_add, Fin.val_one]

/-- A sample without a speed edge keeps the setting (R65). -/
theorem iterate_speed_of_not_speedEdge {m : ButtonMask} {s : State}
    (h : speedEdge m s.prevMask s.map = false) (sw : Bool) :
    (iterate m sw s).speed = s.speed := by
  rw [iterate_speed, if_neg (Bool.eq_false_iff.mp h)]

end Sys2Proof.Machine

namespace Sys2Proof

open Machine

/-- Settles O28: `CLK` in COMPUTE is an iteration, whose speed the sample's speed edge decides. -/
theorem speedEdgeAdvancesSpeedModuloSix : Obligations.SpeedEdgeAdvancesSpeedModuloSix :=
  fun s m sw hc =>
    ⟨iterate m sw s, exec_clk_compute hc m sw,
      fun h => iterate_speed_val_of_speedEdge h sw, fun h => iterate_speed_of_not_speedEdge h sw⟩

end Sys2Proof
end

section
/-! Proofs about OutputFrameBuilder (43_frame_builder.md): the slots of the published table by their parity. -/

namespace Sys2Proof.Machine

/-- FRAME in C3 is one pair of bytes, chosen by the parity of the slot (R69). -/
theorem frameC3_eq_ite_even (f : Fragments) (i : Slot) :
    frameC3 f i = if i.val % 2 = 0 then f.high else f.low ||| 0x0c := by
  fin_cases i <;> rfl

/-- An iteration that ends in C3 publishes the inverted C3 frame of the fragments it built (R69, R71). -/
theorem iterate_read_of_mode_c3 {m : ButtonMask} {sw : Bool} {s : State}
    (h : (iterate m sw s).mode = .c3) (i : Slot) :
    (iterate m sw s).table.read i =
      ~~~ (frameC3 (buildFragments m (iterate m sw s).ignoreGate s.phase s.map) i) := by
  rw [iterate_read, h]
  rfl

end Sys2Proof.Machine

namespace Sys2Proof

open Machine

/-- Settles O36: `CLK` in COMPUTE is an iteration, and the C3 frame it inverts holds `high` or `low` with 0x0c by the slot's parity. -/
theorem threeButtonTableFromTheFragments : Obligations.ThreeButtonTableFromTheFragments := by
  intro s t m sw hc h hmode i
  obtain rfl : iterate m sw s = t := by simpa [exec_clk_compute hc] using h
  rw [iterate_read_of_mode_c3 hmode, frameC3_eq_ite_even]
  exact ⟨fun heven => by rw [if_pos heven], fun hodd => by rw [if_neg (by omega)]⟩

end Sys2Proof
end

section
/-! Proofs about SelectDispatcher (44_select_dispatcher.md): what an edge makes of the index (R76). -/

namespace Sys2Proof.Machine

/-- An edge moves the index to the next of the eight slots, the last wrapping to the first (R76). -/
theorem driveNextSlot_cycleIdx_val (s : State) :
    (driveNextSlot s).cycleIdx.val = (s.cycleIdx.val + 1) % 8 := by
  rw [driveNextSlot_cycleIdx, Fin.val_add, Fin.val_one]

/-- An edge leaves `OUT` at the slot of the index it leaves (R76). -/
theorem driveNextSlot_out_eq_read_cycleIdx (s : State) :
    (driveNextSlot s).out = s.table.read (driveNextSlot s).cycleIdx := by
  rw [driveNextSlot_out, driveNextSlot_cycleIdx]

end Sys2Proof.Machine

namespace Sys2Proof

open Machine

/-- Settles O11: at either level `SEL_EDGE` drives the next slot, which moves the index, writes `OUT` and sets `polled`. -/
theorem selEdgeAdvancesAndDrivesTheNextSlot : Obligations.SelEdgeAdvancesAndDrivesTheNextSlot :=
  fun s level =>
    ⟨driveNextSlot s, exec_selEdge level s, driveNextSlot_cycleIdx_val s,
      driveNextSlot_out_eq_read_cycleIdx s, driveNextSlot_polled s⟩

end Sys2Proof
end

section
/-! Proofs about PollingDetector (45_polling_detector.md): the wait quantum whose count reaches its limit (R84, R85). -/

namespace Sys2Proof.Machine

/-- Without the flag, a quantum that brings the count to the limit of its state ends the wait in SelfTimed: POLL_TIMEOUT goes there and SELF_PERIOD stays there (R84, R85). -/
theorem waitStep_of_limit {s : State} (hflag : s.polled = false)
    (hlimit : s.waitCtr + 1 = waitLimit s.cfg s.pollState) :
    waitStep s =
      { s with pollState := .selfTimed, fgPhase := .compute, waitCtr := waitLimit s.cfg s.pollState } := by
  rcases waitStep_cases s with ⟨hset, -⟩ | ⟨-, -, h⟩ | ⟨-, hne, -⟩
  · exact absurd hset (Bool.eq_false_iff.mp hflag)
  · rw [h, hlimit]
  · exact absurd hlimit hne

end Sys2Proof.Machine

namespace Sys2Proof

open Machine

/-- Settles O17: `CLK` in WAIT is a wait quantum, and the limit of HostPolled is `N_POLL_TIMEOUT`. -/
theorem pollTimeoutFallsBackToSelfTimed : Obligations.PollTimeoutFallsBackToSelfTimed := by
  intro s m sw hwait hhost hflag hctr
  have hlimit : waitLimit s.cfg s.pollState = s.cfg.nPollTimeout := by rw [hhost, waitLimit]
  rw [exec_clk_wait hwait, waitStep_of_limit hflag (hctr.trans hlimit.symm), hlimit]

/-- Settles O18: the limit of SelfTimed is `N_SELF_PERIOD`, and the SelfTimed that the end of the wait writes is the state it was in. -/
theorem selfPeriodEndsASelfTimedWait : Obligations.SelfPeriodEndsASelfTimedWait := by
  intro s m sw hwait hself hflag hctr
  have hlimit : waitLimit s.cfg s.pollState = s.cfg.nSelfPeriod := by rw [hself, waitLimit]
  rw [exec_clk_wait hwait, waitStep_of_limit hflag (hctr.trans hlimit.symm), hlimit, ← hself]

end Sys2Proof
end

section
/-! Proofs about ModeLatch (46_mode_latch.md): the mode an iteration leaves, by the latch it leaves (R89). -/

namespace Sys2Proof.Machine

/-- MODE_SELECT reads the latch after its update, which is the one the iteration leaves (R88, R89). -/
theorem iterate_mode_eq_ite_poLatch (m : ButtonMask) (sw : Bool) (s : State) :
    (iterate m sw s).mode = if (iterate m sw s).poLatch || sw then .c3 else .s6 := rfl

/-- Compatibility is forced by the latch or the switch (R89). -/
theorem iterate_mode_eq_c3_iff (m : ButtonMask) (sw : Bool) (s : State) :
    (iterate m sw s).mode = .c3 ↔ (iterate m sw s).poLatch = true ∨ sw = true := by
  rw [iterate_mode_eq_ite_poLatch, Ne.ite_eq_left_iff Mode.noConfusion, Bool.or_eq_true]

/-- Native mode needs both the latch and the switch clear (R89). -/
theorem iterate_mode_eq_s6_iff (m : ButtonMask) (sw : Bool) (s : State) :
    (iterate m sw s).mode = .s6 ↔ (iterate m sw s).poLatch = false ∧ sw = false := by
  rw [iterate_mode_eq_ite_poLatch, Ne.ite_eq_right_iff Mode.noConfusion, Bool.not_eq_true,
    Bool.or_eq_false_iff]

end Sys2Proof.Machine

namespace Sys2Proof

open Machine

/-- Settles O27: `CLK` in COMPUTE is an iteration, whose mode the latch it leaves and the switch decide. -/
theorem modeFollowsLatchAndSwitch : Obligations.ModeFollowsLatchAndSwitch :=
  fun s m sw hc =>
    ⟨iterate m sw s, exec_clk_compute hc m sw, iterate_mode_eq_c3_iff m sw s,
      iterate_mode_eq_s6_iff m sw s⟩

end Sys2Proof
end

section
/-! Proofs about the encodings (30_encoding.md): the decoder of each word kind in terms of the word's value, and its agreement with the encoder. -/

namespace Sys2Proof

/-! Event words (R42 to R46), by their value. -/

/-- The match of a `CLK` word: bits [15:13] are zero (R43). -/
theorem clk_match_iff (w : EventWord) : w &&& 0xE000 = 0x0000 ↔ w.toNat < 2 ^ 13 := by
  have hmask : (0xE000 : EventWord) = BitVec.allOnes 16 <<< 13 := rfl
  rw [hmask, ← BitVec.shiftLeft_ushiftRight]
  bv_omega

/-- The match of a `SEL_EDGE` word: bits [15:1] are those of 0x4000 (R44). -/
theorem selEdge_match_iff (w : EventWord) : w &&& 0xFFFE = 0x4000 ↔ w.toNat / 2 = 2 ^ 13 := by
  have hmask : (0xFFFE : EventWord) = BitVec.allOnes 16 <<< 1 := rfl
  rw [hmask, ← BitVec.shiftLeft_ushiftRight]
  bv_omega

/-- Each bit of a `CLK` word is the switch or a bit of the mask (R43). -/
theorem clkWord_getLsbD (m : ButtonMask) (sw : Bool) (k : Nat) :
    (clkWord m sw).getLsbD k = if k = 12 then sw else m.getLsbD k := by
  simp only [clkWord, BitVec.getLsbD_or, BitVec.getLsbD_shiftLeft, BitVec.getLsbD_setWidth, BitVec.getLsbD_ofBool]
  rcases Nat.lt_trichotomy k 12 with h | rfl | h
  · simp [h, h.ne, show k < 16 by omega]
  · simp
  · simp [h.ne', show ¬ k < 12 by omega, show k - 12 ≠ 0 by omega, BitVec.getLsbD_of_ge m k h.le]

/-- A word with bits [15:13] zero is the `CLK` word of its fields. -/
theorem clkWord_of_fields {w : EventWord} (h : w.toNat < 2 ^ 13) :
    clkWord (w.extractLsb' 0 12) (w.getLsbD 12) = w := by
  refine BitVec.eq_of_getLsbD_eq fun k _ => ?_
  rw [clkWord_getLsbD, BitVec.getLsbD_extractLsb', Nat.zero_add]
  rcases Nat.lt_trichotomy k 12 with hk | rfl | hk
  · simp [hk, hk.ne]
  · simp
  · have hzero : w.getLsbD k = false :=
      Nat.testBit_lt_two_pow (h.trans_le (Nat.pow_le_pow_right (by decide) hk))
    simp [hk.ne', show ¬ k < 12 by omega, hzero]

theorem selEdgeWord_toNat (l : Bool) : (selEdgeWord l).toNat = 2 ^ 14 + l.toNat := by
  cases l <;> rfl

/-- A word whose bits [15:1] are those of 0x4000 is the `SEL_EDGE` word of its last bit. -/
theorem selEdgeWord_of_fields {w : EventWord} (h : w.toNat / 2 = 2 ^ 13) :
    selEdgeWord (w.getLsbD 0) = w := by
  refine BitVec.eq_of_toNat_eq ?_
  rw [selEdgeWord_toNat, BitVec.getLsbD, Nat.toNat_testBit]
  omega

/-- The event decoder, with its three matches by value. -/
theorem decodeEvent_eq (w : EventWord) : decodeEvent w =
    if w.toNat < 2 ^ 13 then .ok (.clk (w.extractLsb' 0 12) (w.getLsbD 12))
    else if w.toNat / 2 = 2 ^ 13 then .ok (.selEdge (w.getLsbD 0))
    else if w.toNat = 2 ^ 15 then .ok .reset
    else .error .reservedEvent := by
  have hreset : w = 0x8000 ↔ w.toNat = 2 ^ 15 := by bv_omega
  simp only [decodeEvent, clk_match_iff, selEdge_match_iff, hreset]

/-- The values of the words that are reserved (R46). -/
theorem decodeEvent_eq_reserved_iff (w : EventWord) : decodeEvent w = .error .reservedEvent ↔
    2 ^ 13 ≤ w.toNat ∧ w.toNat / 2 ≠ 2 ^ 13 ∧ w.toNat ≠ 2 ^ 15 := by
  rw [decodeEvent_eq]
  split_ifs <;> simp <;> omega

theorem decodeEvent_clkWord (m : ButtonMask) (sw : Bool) : decodeEvent (clkWord m sw) = .ok (.clk m sw) := by
  rw [decodeEvent, if_pos (clkWord_code m sw), clkWord_mask, clkWord_sw]

theorem decodeEvent_selEdgeWord (l : Bool) : decodeEvent (selEdgeWord l) = .ok (.selEdge l) := by
  cases l <;> rfl

theorem isEvent_of_decodeEvent {w : EventWord} {i : Instr} (h : decodeEvent w = .ok i) : i.isEvent = true := by
  rw [decodeEvent_eq] at h
  split_ifs at h <;> cases h <;> rfl

theorem reject_of_decodeEvent {w : EventWord} {r : Reject} (h : decodeEvent w = .error r) : r = .reservedEvent := by
  rw [decodeEvent_eq] at h
  split_ifs at h
  cases h
  rfl

/-- An event word that decodes is the word of its event. -/
theorem encode_of_decodeEvent {w : EventWord} {i : Instr} (h : decodeEvent w = .ok i) :
    encode i = .event w ∧ i.wf = true := by
  rw [decodeEvent_eq] at h
  split_ifs at h with hclk hsel hreset <;> cases h
  · exact ⟨congrArg InputWord.event (clkWord_of_fields hclk), rfl⟩
  · exact ⟨congrArg InputWord.event (selEdgeWord_of_fields hsel), rfl⟩
  · exact ⟨congrArg InputWord.event (BitVec.eq_of_toNat_eq hreset.symm), rfl⟩

/-! Map words (R48, R49). -/

/-- The two flag bits of an entry word (R48). -/
def EntryFlag.bits : EntryFlag → BitVec 2
  | .plain => 0
  | .turbo => 1
  | .speedSelect => 2

theorem mapWordOf_eq_entryWord (e : MapEntry) :
    mapWordOf e = entryWord e.flag.bits e.btn e.low e.high e.extra := by
  obtain ⟨b, l, h, x, f⟩ := e
  cases f <;> rfl

theorem encode_ofEntry (e : MapEntry) : encode (.ofEntry e) = .map (mapWordOf e) := by
  obtain ⟨b, l, h, x, f⟩ := e
  cases f <;> rfl

theorem wf_ofEntry (e : MapEntry) : (Instr.ofEntry e).wf = e.ok := by
  obtain ⟨b, l, h, x, f⟩ := e
  cases f <;> rfl

theorem entry_ok_iff (e : MapEntry) : e.ok = true ↔ e.btn.toNat < 12 := decide_eq_true_iff

/-- The word of an entry with a button decodes to the entry. -/
theorem decodeMap_mapWordOf {e : MapEntry} (h : e.ok = true) : decodeMap (mapWordOf e) = .ok (.ofEntry e) := by
  have hbtn : ¬ 12 ≤ e.btn.toNat := not_le.mpr ((entry_ok_iff e).mp h)
  rw [mapWordOf_eq_entryWord, decodeMap, if_neg (entryWord_ne_sentinel _ _ _ _ _)]
  obtain ⟨b, l, h, x, f⟩ := e
  cases f <;> simp [EntryFlag.bits, hbtn, Instr.ofEntry]

theorem bitVec2_cases (f : BitVec 2) : f = 0 ∨ f = 1 ∨ f = 2 ∨ f = 3 := by revert f; decide

/-- What the map decoder makes of a word: the sentinel, an entry whose button exists, or a refusal for one of R49's three reasons. -/
theorem decodeMap_cases (w : MapWord) :
    (w = 0xFFFFFFFF ∧ decodeMap w = .ok .mapend) ∨
    (∃ e : MapEntry, e.ok = true ∧ mapWordOf e = w ∧ decodeMap w = .ok (.ofEntry e)) ∨
    (w ≠ 0xFFFFFFFF ∧ (w.extractLsb' 30 2 ≠ 0 ∨ 12 ≤ (w.extractLsb' 24 4).toNat ∨ w.extractLsb' 28 2 = 3) ∧
      decodeMap w = .error .badMapEntry) := by
  by_cases hend : w = 0xFFFFFFFF
  · exact .inl ⟨hend, by rw [decodeMap, if_pos hend]⟩
  refine .inr ?_
  by_cases hbad : w.extractLsb' 30 2 ≠ 0 ∨ 12 ≤ (w.extractLsb' 24 4).toNat
  · exact .inr ⟨hend, by tauto, by rw [decodeMap, if_neg hend, if_pos hbad]⟩
  obtain ⟨hres, hbtn⟩ := not_or.mp hbad
  have entry (f : EntryFlag) (hf : w.extractLsb' 28 2 = f.bits) :
      ∃ e : MapEntry, e.ok = true ∧ mapWordOf e = w ∧ decodeMap w = .ok (.ofEntry e) := by
    let e : MapEntry := ⟨w.extractLsb' 24 4, w.extractLsb' 0 8, w.extractLsb' 8 8, w.extractLsb' 16 8, f⟩
    have hok : e.ok = true := (entry_ok_iff e).mpr (not_le.mp hbtn)
    have hw : mapWordOf e = w := by
      rw [mapWordOf_eq_entryWord, ← entryWord_of_fields w (not_not.mp hres), hf]
    exact ⟨e, hok, hw, by rw [← hw, decodeMap_mapWordOf hok]⟩
  rcases bitVec2_cases (w.extractLsb' 28 2) with hf | hf | hf | hf
  · exact .inl (entry .plain hf)
  · exact .inl (entry .turbo hf)
  · exact .inl (entry .speedSelect hf)
  · exact .inr ⟨hend, .inr (.inr hf), by rw [decodeMap, if_neg hend, if_neg hbad, hf]; rfl⟩

/-- A map word that decodes is the word of what it decodes to. -/
theorem encode_of_decodeMap {w : MapWord} {i : Instr} (h : decodeMap w = .ok i) :
    encode i = .map w ∧ i.wf = true := by
  rcases decodeMap_cases w with ⟨rfl, hd⟩ | ⟨e, hok, hw, hd⟩ | ⟨-, -, hd⟩ <;> rw [hd] at h <;> cases h
  · exact ⟨rfl, rfl⟩
  · exact ⟨by rw [encode_ofEntry, hw], (wf_ofEntry e).trans hok⟩

/-! The statements. -/

/-- Settles O4: one round trip for each event, one for all three entry words. -/
theorem decodeOfEncodeIsIdentity : Obligations.DecodeOfEncodeIsIdentity := by
  intro i hwf
  rcases Machine.instr_cases i with ⟨m, sw, rfl⟩ | ⟨l, rfl⟩ | rfl | ⟨e, rfl⟩ | rfl
  · exact decodeEvent_clkWord m sw
  · exact decodeEvent_selEdgeWord l
  · rfl
  · rw [encode_ofEntry]
    exact decodeMap_mapWordOf ((wf_ofEntry e).symm.trans hwf)
  · rfl

/-- Settles O5: each decoder accepts only the words its encoder writes. -/
theorem acceptedWordsAreEncodings : Obligations.AcceptedWordsAreEncodings
  | .event _, _, h => encode_of_decodeEvent h
  | .map _, _, h => encode_of_decodeMap h

/-- Settles O2: the reserved values are those outside the three matches, code by code. -/
theorem reservedEventWordsAreExactlyThoseListed : Obligations.ReservedEventWordsAreExactlyThoseListed := by
  intro w
  refine (decodeEvent_eq_reserved_iff w).trans ?_
  simp only [← BitVec.toNat_inj, ne_eq, BitVec.getLsbD, Nat.testBit_eq_decide_div_mod_eq,
    decide_eq_true_eq, BitVec.extractLsb'_toNat, Nat.shiftRight_eq_div_pow, BitVec.ofNat_eq_ofNat,
    BitVec.toNat_ofNat]
  omega

/-- Settles O3: the cases of the map decoder, of which only the refusal is a refusal. -/
theorem badMapWordsAreExactlyThoseListed : Obligations.BadMapWordsAreExactlyThoseListed := by
  intro w
  change decodeMap w = _ ↔ _
  rcases decodeMap_cases w with ⟨rfl, hd⟩ | ⟨e, hok, rfl, hd⟩ | ⟨hend, hbad, hd⟩ <;> rw [hd]
  · simp
  · have hbtn := (entry_ok_iff e).mp hok
    have hflag : e.flag.bits ≠ 3#2 := by cases e.flag <;> decide
    simp [mapWordOf_eq_entryWord, hbtn, hflag]
  · exact iff_of_true rfl ⟨hend, hbad⟩

/-- Settles O1: the decoder evaluates on each of the nine words. -/
theorem specWordsDecodeAsListed : Obligations.SpecWordsDecodeAsListed := by
  refine ⟨?_, ?_, ?_, ?_, ?_, ?_, ?_, ?_, ?_⟩ <;> rfl

end Sys2Proof
end

section
/-! Proofs about runs: one instruction of a list, the events of a session, the edges between two quanta and what a wait quantum leaves, each said once. -/

namespace Sys2Proof.Machine

theorem runInstrs_cons_of_next {i : Instr} {s t : State} (h : exec i s = .next t) (is : List Instr) :
    runInstrs (i :: is) s = runInstrs is t := by rw [runInstrs, h]

theorem runInstrs_singleton_of_next {i : Instr} {s t : State} (h : exec i s = .next t) :
    runInstrs [i] s = .next t := runInstrs_cons_of_next h []

theorem runInstrs_append_of_next {is : List Instr} {s t : State} (h : runInstrs is s = .next t) (js : List Instr) :
    runInstrs (is ++ js) s = runInstrs js t := by
  induction is generalizing s with
  | nil => cases h; rfl
  | cons i is ih =>
    cases hi : exec i s with
    | next u =>
      rw [runInstrs_cons_of_next hi] at h
      rw [List.cons_append, runInstrs_cons_of_next hi, ih h]
    | fault r => nomatch r
    | refused r => simp [runInstrs, hi] at h

/-! How many iterations a run holds, by its first event. -/

theorem iterations_clk_compute {s : State} (h : s.fgPhase = .compute) (m : ButtonMask) (sw : Bool) (is : List Instr) :
    iterations (.clk m sw :: is) s = 1 + iterations is (iterate m sw s) := by
  rw [iterations, exec_clk_compute h, if_pos (by simp [iterates, Instr.isClk, h])]

theorem iterations_clk_wait {s : State} (h : s.fgPhase = .wait) (m : ButtonMask) (sw : Bool) (is : List Instr) :
    iterations (.clk m sw :: is) s = iterations is (waitStep s) := by
  rw [iterations, exec_clk_wait h, if_neg (by simp [iterates, h]), Nat.zero_add]

theorem iterations_selEdge (l : Bool) (is : List Instr) (s : State) :
    iterations (.selEdge l :: is) s = iterations is (driveNextSlot s) := by
  rw [iterations, exec_selEdge, if_neg (by simp [iterates, Instr.isClk]), Nat.zero_add]

theorem fgPhase_cases (s : State) : s.fgPhase = .compute ∨ s.fgPhase = .wait := by
  cases s.fgPhase <;> simp

/-! The instructions by their kind. -/

theorem isClk_iff {i : Instr} : i.isClk = true ↔ ∃ m sw, i = .clk m sw := by
  cases i <;> simp [Instr.isClk]

theorem isEdge_iff {i : Instr} : i.isEdge = true ↔ ∃ l, i = .selEdge l := by
  cases i <;> simp [Instr.isEdge]

theorem isEvent_cases {i : Instr} (h : i.isEvent = true) :
    (∃ m sw, i = .clk m sw) ∨ (∃ l, i = .selEdge l) ∨ i = .reset := by
  cases i <;> simp_all [Instr.isEvent]

theorem isEvent_ofEntry (e : MapEntry) : (Instr.ofEntry e).isEvent = false := by
  obtain ⟨b, l, h, x, f⟩ := e
  cases f <;> rfl

/-- Everything an event of a session does: an iteration, a wait quantum or an edge. -/
theorem exec_inSession_cases {i : Instr} (h : i.inSession = true) (s : State) :
    (∃ m sw, i = .clk m sw ∧ s.fgPhase = .compute ∧ exec i s = .next (iterate m sw s)) ∨
    (∃ m sw, i = .clk m sw ∧ s.fgPhase = .wait ∧ exec i s = .next (waitStep s)) ∨
    (∃ l, i = .selEdge l ∧ exec i s = .next (driveNextSlot s)) := by
  cases i with
  | clk m sw =>
    rcases fgPhase_cases s with hp | hp
    · exact .inl ⟨m, sw, rfl, hp, exec_clk_compute hp m sw⟩
    · exact .inr (.inl ⟨m, sw, rfl, hp, exec_clk_wait hp m sw⟩)
  | selEdge l => exact .inr (.inr ⟨l, rfl, exec_selEdge l s⟩)
  | reset | mapentNone | mapentTurbo | mapentSpeedsel | mapend => nomatch h

/-- Where every instruction of a kind has a next state and keeps a property, so has and does every run of that kind. -/
theorem runInstrs_of_kept {A : Instr → Prop} {P : State → Prop}
    (hkept : ∀ i s, A i → P s → ∃ t, exec i s = .next t ∧ P t)
    {es : List Instr} (hes : ∀ i ∈ es, A i) {s : State} (hs : P s) :
    ∃ t, runInstrs es s = .next t ∧ P t := by
  induction es generalizing s with
  | nil => exact ⟨s, rfl, hs⟩
  | cons i es ih =>
    obtain ⟨hi, hes⟩ := List.forall_mem_cons.mp hes
    obtain ⟨t, ht, hPt⟩ := hkept i s hi hs
    rw [runInstrs_cons_of_next ht]
    exact ih hes hPt

/-- Edges write the index and `OUT`, and any positive number of them sets the flag (R76, R116). -/
theorem runInstrs_edges {edges : List Instr} (h : ∀ i ∈ edges, i.isEdge = true) (s : State) :
    ∃ idx out, runInstrs edges s =
      .next { s with cycleIdx := idx, out := out, polled := s.polled || !edges.isEmpty } := by
  induction edges generalizing s with
  | nil => exact ⟨s.cycleIdx, s.out, by simp [runInstrs]⟩
  | cons i edges ih =>
    obtain ⟨hi, hedges⟩ := List.forall_mem_cons.mp h
    obtain ⟨l, rfl⟩ := isEdge_iff.mp hi
    obtain ⟨idx, out, hrun⟩ := ih hedges (driveNextSlot s)
    refine ⟨idx, out, ?_⟩
    rw [runInstrs_cons_of_next (exec_selEdge l s), hrun]
    simp [driveNextSlot]

/-! What a wait quantum leaves (R95): all but the flag, the detector state, the phase of FG and the count. -/

theorem waitStep_eq_with (s : State) : waitStep s =
    { s with
      polled := (waitStep s).polled
      pollState := (waitStep s).pollState
      fgPhase := (waitStep s).fgPhase
      waitCtr := (waitStep s).waitCtr } := by
  rcases waitStep_cases s with ⟨-, h⟩ | ⟨-, -, h⟩ | ⟨-, -, h⟩ <;> rw [h]

@[simp] theorem waitStep_out (s : State) : (waitStep s).out = s.out := by rw [waitStep_eq_with]
@[simp] theorem waitStep_table (s : State) : (waitStep s).table = s.table := by rw [waitStep_eq_with]
@[simp] theorem waitStep_cycleIdx (s : State) : (waitStep s).cycleIdx = s.cycleIdx := by rw [waitStep_eq_with]
@[simp] theorem waitStep_speed (s : State) : (waitStep s).speed = s.speed := by rw [waitStep_eq_with]
@[simp] theorem waitStep_phase (s : State) : (waitStep s).phase = s.phase := by rw [waitStep_eq_with]
@[simp] theorem waitStep_countdown (s : State) : (waitStep s).countdown = s.countdown := by rw [waitStep_eq_with]
@[simp] theorem waitStep_prevMask (s : State) : (waitStep s).prevMask = s.prevMask := by rw [waitStep_eq_with]
@[simp] theorem waitStep_firstSample (s : State) : (waitStep s).firstSample = s.firstSample := by rw [waitStep_eq_with]
@[simp] theorem waitStep_poLatch (s : State) : (waitStep s).poLatch = s.poLatch := by rw [waitStep_eq_with]
@[simp] theorem waitStep_mode (s : State) : (waitStep s).mode = s.mode := by rw [waitStep_eq_with]
@[simp] theorem waitStep_cfg (s : State) : (waitStep s).cfg = s.cfg := by rw [waitStep_eq_with]
@[simp] theorem waitStep_map (s : State) : (waitStep s).map = s.map := by rw [waitStep_eq_with]
@[simp] theorem waitStep_listing (s : State) : (waitStep s).listing = s.listing := by rw [waitStep_eq_with]
@[simp] theorem waitStep_mapWords (s : State) : (waitStep s).mapWords = s.mapWords := by rw [waitStep_eq_with]
@[simp] theorem waitStep_events (s : State) : (waitStep s).events = s.events := by rw [waitStep_eq_with]

end Sys2Proof.Machine
end

section
/-! Proofs about the step: which word it takes, and the streams run to their end (00_scope.md R6, 30_encoding.md R52, 70_reset_and_hazards.md R112). -/

namespace Sys2Proof.Machine

/-! One step, by the decoding of the next word. -/

section
variable {s : State} {es : List MapEntry} {i : Instr} {r : Reject}

theorem step_event_of_decode {w : EventWord} {ws : List EventWord} (hl : s.listing = none)
    (hw : s.events = w :: ws) (hd : decode (.event w) = .ok i) : step s = exec i { s with events := ws } := by
  simp [step, fetch, hl, hw, hd]

theorem step_event_of_reject {w : EventWord} {ws : List EventWord} (hl : s.listing = none)
    (hw : s.events = w :: ws) (hd : decode (.event w) = .error r) : step s = .refused (refusalOf r) := by
  simp [step, fetch, hl, hw, hd]

theorem step_map_of_decode {w : MapWord} {ws : List MapWord} (hl : s.listing = some es)
    (hw : s.mapWords = w :: ws) (hd : decode (.map w) = .ok i) : step s = exec i { s with mapWords := ws } := by
  simp [step, fetch, hl, hw, hd]

theorem step_map_of_reject {w : MapWord} {ws : List MapWord} (hl : s.listing = some es)
    (hw : s.mapWords = w :: ws) (hd : decode (.map w) = .error r) : step s = .refused (refusalOf r) := by
  simp [step, fetch, hl, hw, hd]

end

theorem runSteps_succ_of_next {s t : State} (h : step s = .next t) (k : Nat) : runSteps (k + 1) s = runSteps k t := by
  rw [runSteps, h]

theorem runSteps_one (s : State) : runSteps 1 s = step s := by
  rw [runSteps]
  cases step s <;> rfl

/-! Events neither read nor write the configuration and the streams (R28). -/

theorem waitStep_with_events (s : State) (ws : List EventWord) :
    waitStep { s with events := ws } = { waitStep s with events := ws } := by
  unfold waitStep
  split_ifs
  · rfl
  · cases hp : s.pollState <;> simp [endWait, countQuantum, pollTimeout, selfPeriod, hp]
  · rfl

/-- An event does the same whatever the event stream holds, and leaves the stream and the listing. -/
theorem exec_event_with_events {i : Instr} (h : i.isEvent = true) (s : State) :
    ∃ t, exec i s = .next t ∧ t.listing = s.listing ∧ t.events = s.events ∧
      ∀ ws, exec i { s with events := ws } = .next { t with events := ws } := by
  rcases isEvent_cases h with ⟨m, sw, rfl⟩ | ⟨l, rfl⟩ | rfl
  · rcases fgPhase_cases s with hp | hp
    · exact ⟨_, exec_clk_compute hp m sw, rfl, rfl, fun ws => exec_clk_compute (s := { s with events := ws }) hp m sw⟩
    · refine ⟨_, exec_clk_wait hp m sw, waitStep_listing s, waitStep_events s, fun ws => ?_⟩
      rw [← waitStep_with_events]
      exact exec_clk_wait (s := { s with events := ws }) hp m sw
  · exact ⟨_, exec_selEdge l s, rfl, rfl, fun _ => rfl⟩
  · exact ⟨_, exec_reset s, rfl, rfl, fun _ => rfl⟩

/-- Every event has a next state. -/
theorem exec_event_next {i : Instr} (h : i.isEvent = true) (s : State) : ∃ t, exec i s = .next t :=
  let ⟨t, ht, _⟩ := exec_event_with_events h s
  ⟨t, ht⟩

theorem encode_event {i : Instr} (h : i.isEvent = true) : encode i = .event (eventWordOf i) ∧ i.wf = true := by
  rcases isEvent_cases h with ⟨m, sw, rfl⟩ | ⟨l, rfl⟩ | rfl <;> exact ⟨rfl, rfl⟩

theorem decode_eventWordOf {i : Instr} (h : i.isEvent = true) : decode (.event (eventWordOf i)) = .ok i := by
  obtain ⟨henc, hwf⟩ := encode_event h
  rw [← henc]
  exact decodeOfEncodeIsIdentity i hwf

/-- A step at the word of an event is the event, with the word taken. -/
theorem step_eventWordOf {i : Instr} (hi : i.isEvent = true) {s t : State} (hl : s.listing = none)
    (h : exec i s = .next t) (ws : List EventWord) :
    step { s with events := eventWordOf i :: ws } = .next { t with events := ws } := by
  obtain ⟨u, hu, -, -, hws⟩ := exec_event_with_events hi s
  obtain rfl : u = t := by simpa [hu] using h
  exact (step_event_of_decode (s := { s with events := eventWordOf i :: ws }) hl rfl (decode_eventWordOf hi)).trans (hws ws)

/-- As many steps as there are events waiting run them, where no listing is open. -/
theorem runSteps_eventWordOf {is : List Instr} (his : ∀ i ∈ is, i.isEvent = true) {s : State} (hl : s.listing = none) :
    runSteps is.length { s with events := is.map eventWordOf ++ s.events } = runInstrs is s := by
  induction is generalizing s with
  | nil => rfl
  | cons i is ih =>
    obtain ⟨hi, his⟩ := List.forall_mem_cons.mp his
    obtain ⟨t, ht, hlt, het, -⟩ := exec_event_with_events hi s
    rw [runInstrs_cons_of_next ht, ← ih his (hlt.trans hl), het]
    exact runSteps_succ_of_next (step_eventWordOf hi hl ht _) _

/-! Reading a listing. -/

theorem exec_mapend_of_ok {s : State} {es : List MapEntry} (hl : s.listing = some es) (h : mapOk es = true) :
    exec .mapend s = .next { s with map := es, listing := none } := by
  simp [exec, execMapend, hl, h]

theorem exec_mapend_of_bad {s : State} {es : List MapEntry} (hl : s.listing = some es) (h : mapOk es = false) :
    exec .mapend s = .refused .badMap := by
  simp [exec, execMapend, hl, h]

/-- What the run to the sentinel makes of the whole listing: it becomes `MAP`, or is refused (R58). -/
def closeListing (es : List MapEntry) (rest : List MapWord) (s : State) : Host.Outcome State Fault Refusal :=
  if mapOk es then .next { s with map := es, listing := none, mapWords := rest } else .refused .badMap

/-- The sentinel closes the listing read so far. -/
theorem step_sentinel {s : State} {es : List MapEntry} (hl : s.listing = some es) (rest : List MapWord) :
    step { s with mapWords := 0xFFFFFFFF :: rest } = closeListing es rest s := by
  have hstep : step { s with mapWords := 0xFFFFFFFF :: rest } = exec .mapend { s with mapWords := rest } :=
    step_map_of_decode hl rfl rfl
  rw [hstep, closeListing]
  cases h : mapOk es with
  | true => exact exec_mapend_of_ok hl h
  | false => exact exec_mapend_of_bad hl h

/-- The word of an entry extends the listing read so far. -/
theorem step_mapWordOf {e : MapEntry} (he : e.ok = true) {s : State} {acc : List MapEntry}
    (hl : s.listing = some acc) (ws : List MapWord) :
    step { s with mapWords := mapWordOf e :: ws } = .next { s with listing := some (acc ++ [e]), mapWords := ws } := by
  have hstep : step { s with mapWords := mapWordOf e :: ws } = exec (.ofEntry e) { s with mapWords := ws } :=
    step_map_of_decode hl rfl (decodeMap_mapWordOf he)
  rw [hstep, exec_ofEntry, addEntry_ok he]
  simp [hl]

/-- From a listing that holds `acc`, reading the entries `es` and the sentinel closes `acc ++ es`. -/
theorem runSteps_mapWordOf {es : List MapEntry} (hes : ∀ e ∈ es, e.ok = true) (acc : List MapEntry)
    (rest : List MapWord) {s : State} (hl : s.listing = some acc) :
    runSteps (es.length + 1) { s with mapWords := es.map mapWordOf ++ 0xFFFFFFFF :: rest } =
      closeListing (acc ++ es) rest s := by
  induction es generalizing acc s with
  | nil =>
    rw [List.append_nil, ← step_sentinel hl rest]
    exact runSteps_one _
  | cons e es ih =>
    obtain ⟨he, hes⟩ := List.forall_mem_cons.mp hes
    refine (runSteps_succ_of_next (step_mapWordOf he hl _) _).trans ?_
    rw [List.append_cons acc e es]
    exact ih hes (acc ++ [e]) (s := { s with listing := some (acc ++ [e]) }) rfl

end Sys2Proof.Machine

namespace Sys2Proof

open Machine

/-- Settles O6: the two streams, each by its own step lemma. -/
theorem stepRunsTheDecodedInstruction : Obligations.StepRunsTheDecodedInstruction :=
  ⟨fun _ _ _ _ => step_event_of_decode, fun _ _ _ _ _ => step_map_of_decode⟩

/-- Settles O7: the refusal is the one named after the rejection. -/
theorem stepRefusesWordsThatDoNotDecode : Obligations.StepRefusesWordsThatDoNotDecode :=
  ⟨fun _ _ _ => step_event_of_reject, fun _ _ _ _ => step_map_of_reject⟩

/-- Settles O8, by induction on the events: each step takes one word and leaves the rest. -/
theorem eventStreamRunsItsInstructions : Obligations.EventStreamRunsItsInstructions :=
  fun _ rest s h => runSteps_eventWordOf (s := { s with listing := none, events := rest }) h rfl

/-- Settles O9, by induction on the entries, from a listing that already holds some. -/
theorem mapListingInstallsItsEntries : Obligations.MapListingInstallsItsEntries :=
  fun _ rest _ hes hl => runSteps_mapWordOf hes [] rest hl

/-- Settles O10: an event word is refused only by its decoder, a map word by its decoder or at a sentinel by the map check. -/
theorem everyEventHasANextState : Obligations.EveryEventHasANextState := by
  refine ⟨fun i s h => exec_event_next h s, fun s => ?_⟩
  rcases fetch_cases s with ⟨hf, -⟩ | ⟨w, ws, hl, hw, -⟩ | ⟨es, w, ws, hl, hw, -⟩
  · exact .inl ⟨s, by rw [step, hf]⟩
  · cases hd : decode (.event w) with
    | ok i =>
      have hi : i.isEvent = true := isEvent_of_decodeEvent hd
      rw [step_event_of_decode hl hw hd]
      exact .inl (exec_event_next hi _)
    | error r =>
      obtain rfl : r = .reservedEvent := reject_of_decodeEvent hd
      exact .inr (.inl ⟨step_event_of_reject hl hw hd, hl, w, ws, hw, hd⟩)
  · rcases decodeMap_cases w with ⟨-, hd⟩ | ⟨e, he, -, hd⟩ | ⟨-, -, hd⟩
    · have hstep := step_map_of_decode hl hw hd
      cases hok : mapOk es with
      | true => exact .inl ⟨_, hstep.trans (exec_mapend_of_ok hl hok)⟩
      | false => exact .inr (.inr ⟨es, w, ws, hl, hw, .inr ⟨hstep.trans (exec_mapend_of_bad hl hok), hd, hok⟩⟩)
    · exact .inl ⟨_, (step_map_of_decode hl hw hd).trans ((exec_ofEntry e _).trans (addEntry_ok he _))⟩
    · exact .inr (.inr ⟨es, w, ws, hl, hw, .inl ⟨step_map_of_reject hl hw hd, hd⟩⟩)

end Sys2Proof
end

section
/-! Proofs about the wait (45_polling_detector.md, 47_foreground_sequencer.md): one quantum, then how long a wait lasts. -/

namespace Sys2Proof.Machine

/-! One quantum. -/

theorem waitStep_of_polled {s : State} (h : s.polled = true) :
    waitStep s = { s with polled := false, pollState := .hostPolled, fgPhase := .compute } := by
  rcases waitStep_cases s with ⟨-, hs⟩ | ⟨hflag, -⟩ | ⟨hflag, -⟩
  · exact hs
  all_goals exact absurd (h.symm.trans hflag) (by decide)

theorem waitStep_of_ne_limit {s : State} (hflag : s.polled = false)
    (hne : s.waitCtr + 1 ≠ waitLimit s.cfg s.pollState) : waitStep s = { s with waitCtr := s.waitCtr + 1 } := by
  rcases waitStep_cases s with ⟨hset, -⟩ | ⟨-, hlimit, -⟩ | ⟨-, -, hs⟩
  · exact absurd (hset.symm.trans hflag) (by decide)
  · exact absurd hlimit hne
  · exact hs

/-! How many quanta a wait still lasts. -/

/-- Inside a wait the count is below the limit of the present detector state (R95). -/
def WaitInRange (s : State) : Prop := s.fgPhase = .wait → s.waitCtr < waitLimit s.cfg s.pollState

/-- The quanta until the next COMPUTE where no edge comes. -/
def quantaLeft (s : State) : Nat :=
  match s.fgPhase with
  | .compute => 0
  | .wait => waitLimit s.cfg s.pollState - s.waitCtr

theorem quantaLeft_of_compute {s : State} (h : s.fgPhase = .compute) : quantaLeft s = 0 := by
  rw [quantaLeft, h]

theorem quantaLeft_of_wait {s : State} (h : s.fgPhase = .wait) :
    quantaLeft s = waitLimit s.cfg s.pollState - s.waitCtr := by rw [quantaLeft, h]

theorem waitInRange_of_compute {s : State} (h : s.fgPhase = .compute) : WaitInRange s :=
  fun hwait => absurd (h.symm.trans hwait) (by decide)

/-- A new wait lasts as many quanta as its limit. -/
theorem quantaLeft_iterate (m : ButtonMask) (sw : Bool) (s : State) :
    quantaLeft (iterate m sw s) = waitLimit s.cfg s.pollState := rfl

theorem waitInRange_iterate {s : State} (h : 1 ≤ waitLimit s.cfg s.pollState) (m : ButtonMask) (sw : Bool) :
    WaitInRange (iterate m sw s) := fun _ => h

/-- A quantum of a wait in range brings its end nearer, by one where the flag is clear and at once where it is set. -/
theorem waitStep_progress {s : State} (hwait : s.fgPhase = .wait) (hr : WaitInRange s) :
    WaitInRange (waitStep s) ∧ quantaLeft (waitStep s) < quantaLeft s ∧
      (s.polled = false → quantaLeft s = quantaLeft (waitStep s) + 1) := by
  have hlt := hr hwait
  rw [quantaLeft_of_wait hwait]
  rcases waitStep_cases s with ⟨hset, hs⟩ | ⟨-, hlimit, hs⟩ | ⟨-, hne, hs⟩ <;> rw [hs]
  · exact ⟨nofun, Nat.sub_pos_of_lt hlt, fun hflag => absurd (hset.symm.trans hflag) (by decide)⟩
  · exact ⟨nofun, Nat.sub_pos_of_lt hlt, fun _ => by rw [quantaLeft_of_compute rfl]; omega⟩
  · have hleft : quantaLeft { s with waitCtr := s.waitCtr + 1 } =
        waitLimit s.cfg s.pollState - (s.waitCtr + 1) := quantaLeft_of_wait hwait
    rw [hleft]
    exact ⟨fun _ => show s.waitCtr + 1 < waitLimit s.cfg s.pollState by omega, by omega, fun _ => by omega⟩

/-- FG iterates once more `CLK` events have come than the wait still lasts, whatever edges come between (R98). -/
theorem one_le_iterations {es : List Instr} (hes : ∀ i ∈ es, i.inSession = true) {s : State} (hr : WaitInRange s)
    (hlen : quantaLeft s < es.countP Instr.isClk) : 1 ≤ iterations es s := by
  induction es generalizing s with
  | nil => simp at hlen
  | cons i es ih =>
    obtain ⟨hi, hrest⟩ := List.forall_mem_cons.mp hes
    rcases exec_inSession_cases hi s with ⟨m, sw, rfl, hp, -⟩ | ⟨m, sw, rfl, hp, -⟩ | ⟨l, rfl, -⟩
    · rw [iterations_clk_compute hp]; exact Nat.le_add_right _ _
    · obtain ⟨hr', hless, -⟩ := waitStep_progress hp hr
      rw [List.countP_cons_of_pos rfl] at hlen
      rw [iterations_clk_wait hp]
      exact ih hrest hr' (by omega)
    · rw [List.countP_cons_of_neg Bool.false_ne_true] at hlen
      rw [iterations_selEdge]
      exact ih hrest (s := driveNextSlot s) hr hlen

/-! Without edges: SelfTimed and HostPolled. -/

/-- Without the flag no quantum leaves SelfTimed (R82). -/
theorem waitStep_selfTimed {s : State} (hself : s.pollState = .selfTimed) (hflag : s.polled = false) :
    (waitStep s).pollState = .selfTimed ∧ (waitStep s).polled = false := by
  rcases waitStep_cases s with ⟨hset, -⟩ | ⟨-, -, h⟩ | ⟨-, -, h⟩
  · exact absurd (hset.symm.trans hflag) (by decide)
  · rw [h]; exact ⟨rfl, hflag⟩
  · rw [h]; exact ⟨hself, hflag⟩

/-- SelfTimed without a pending edge stays so for any `CLK` events (R82). -/
theorem runInstrs_clks_selfTimed {clks : List Instr} (hclks : ∀ i ∈ clks, i.isClk = true) {s : State}
    (hs : s.pollState = .selfTimed ∧ s.polled = false) :
    ∃ t, runInstrs clks s = .next t ∧ t.pollState = .selfTimed ∧ t.polled = false := by
  refine runInstrs_of_kept (fun i s hi hs => ?_) hclks hs
  obtain ⟨m, sw, rfl⟩ := isClk_iff.mp hi
  rcases fgPhase_cases s with hp | hp
  · exact ⟨_, exec_clk_compute hp m sw, hs⟩
  · exact ⟨_, exec_clk_wait hp m sw, waitStep_selfTimed hs.1 hs.2⟩

/-- A HostPolled wait without edges stays HostPolled up to its end and is SelfTimed from there on (R84, R86). -/
theorem runInstrs_clks_hostPolled_wait {clks : List Instr} (hclks : ∀ i ∈ clks, i.isClk = true) {s : State}
    (hwait : s.fgPhase = .wait) (hhost : s.pollState = .hostPolled) (hflag : s.polled = false)
    (hr : WaitInRange s) :
    ∃ t, runInstrs clks s = .next t ∧ t.polled = false ∧
      (clks.length < quantaLeft s → t.pollState = .hostPolled) ∧
      (quantaLeft s ≤ clks.length → t.pollState = .selfTimed) := by
  induction clks generalizing s with
  | nil =>
    have hpos : 0 < quantaLeft s := by rw [quantaLeft_of_wait hwait]; exact Nat.sub_pos_of_lt (hr hwait)
    exact ⟨s, rfl, hflag, fun _ => hhost, fun h => absurd h (not_le.mpr hpos)⟩
  | cons i clks ih =>
    obtain ⟨hi, hrest⟩ := List.forall_mem_cons.mp hclks
    obtain ⟨m, sw, rfl⟩ := isClk_iff.mp hi
    obtain ⟨hr', -, hleft⟩ := waitStep_progress hwait hr
    rw [runInstrs_cons_of_next (exec_clk_wait hwait m sw), hleft hflag, List.length_cons]
    simp only [Nat.add_lt_add_iff_right, Nat.add_le_add_iff_right]
    by_cases hlimit : s.waitCtr + 1 = waitLimit s.cfg s.pollState
    · rw [waitStep_of_limit hflag hlimit]
      obtain ⟨t, ht, hself, hft⟩ := runInstrs_clks_selfTimed hrest (s := { s with
        pollState := .selfTimed, fgPhase := .compute, waitCtr := waitLimit s.cfg s.pollState }) ⟨rfl, hflag⟩
      exact ⟨t, ht, hft, fun h => absurd h (Nat.not_lt_zero _), fun _ => hself⟩
    · have hs := waitStep_of_ne_limit hflag hlimit
      exact ih hrest (by rw [hs, hwait]) (by rw [hs, hhost]) (by rw [hs, hflag]) hr'

/-- SelfTimed without edges iterates every `N_SELF_PERIOD + 1` events, counted from the end of the present wait (R97). -/
theorem iterations_clks_selfTimed {clks : List Instr} (hclks : ∀ i ∈ clks, i.isClk = true) {s : State}
    (hself : s.pollState = .selfTimed) (hflag : s.polled = false) (hN : 1 ≤ s.cfg.nSelfPeriod) (hr : WaitInRange s) :
    iterations clks s =
      (clks.length + (s.cfg.nSelfPeriod - quantaLeft s)) / (s.cfg.nSelfPeriod + 1) := by
  have hlimit : waitLimit s.cfg s.pollState = s.cfg.nSelfPeriod := by rw [hself, waitLimit]
  induction clks generalizing s with
  | nil => exact (Nat.div_eq_of_lt (by rw [List.length_nil]; omega)).symm
  | cons i clks ih =>
    obtain ⟨hi, hrest⟩ := List.forall_mem_cons.mp hclks
    obtain ⟨m, sw, rfl⟩ := isClk_iff.mp hi
    rcases fgPhase_cases s with hp | hp
    · have hnext := ih hrest (s := iterate m sw s) hself hflag hN (waitInRange_iterate (hlimit ▸ hN) m sw) hlimit
      rw [quantaLeft_iterate, iterate_cfg, hlimit, Nat.sub_self, Nat.add_zero] at hnext
      rw [iterations_clk_compute hp, hnext, quantaLeft_of_compute hp, List.length_cons, Nat.sub_zero,
        Nat.add_right_comm, Nat.add_assoc, Nat.add_div_right _ (Nat.succ_pos _), Nat.add_comm]
    · obtain ⟨hr', -, hleft⟩ := waitStep_progress hp hr
      have hlen : quantaLeft s ≤ s.cfg.nSelfPeriod := by rw [quantaLeft_of_wait hp, hlimit]; exact Nat.sub_le _ _
      obtain ⟨hself', hflag'⟩ := waitStep_selfTimed hself hflag
      have hnext := ih hrest hself' hflag' ((waitStep_cfg s).symm ▸ hN) hr' (by rw [hself', waitLimit])
      have := hleft hflag
      rw [iterations_clk_wait hp, hnext, waitStep_cfg, List.length_cons]
      congr 1
      omega

end Sys2Proof.Machine

namespace Sys2Proof

open Machine

/-- Settles O16: the flag is looked at before the count. -/
theorem flagEndsAWait : Obligations.FlagEndsAWait := by
  intro s m sw hwait hflag
  rw [exec_clk_wait hwait, waitStep_of_polled hflag]

/-- Settles O19: only the limit of the present detector state counts. -/
theorem waitCountsUpBelowItsLimit : Obligations.WaitCountsUpBelowItsLimit := by
  intro s m sw hwait hflag hself hhost
  have hne : s.waitCtr + 1 ≠ waitLimit s.cfg s.pollState := by
    cases hp : s.pollState with
    | selfTimed => exact hself hp
    | hostPolled => exact hhost hp
  rw [exec_clk_wait hwait, waitStep_of_ne_limit hflag hne]

/-- Settles O20: a wait quantum takes no operand, and writes four registers. -/
theorem waitLeavesAllElseAndIgnoresItsFields : Obligations.WaitLeavesAllElseAndIgnoresItsFields := by
  intro s t m sw hwait h
  obtain rfl : waitStep s = t := by simpa [exec_clk_wait hwait] using h
  refine ⟨fun m' sw' => exec_clk_wait hwait m' sw', ?_⟩
  simp

/-- Settles O15: the edges leave one flag set, which ends the wait at the next quantum. -/
theorem edgesMergeIntoOneConsumedFlag : Obligations.EdgesMergeIntoOneConsumedFlag := by
  intro s edges m sw hne hedges hwait
  obtain ⟨idx, out, hrun⟩ := runInstrs_edges hedges s
  have hflag : (s.polled || !edges.isEmpty) = true := by simp [hne]
  rw [runInstrs_append_of_next hrun]
  exact ⟨_, runInstrs_singleton_of_next (flagEndsAWait _ m sw (by exact hwait) hflag), rfl, rfl, rfl, rfl⟩

/-- Settles O21: the first event opens a wait of `N_POLL_TIMEOUT` quanta, and the rest run it down. -/
theorem silenceRevertsToSelfTimedExactlyOnce : Obligations.SilenceRevertsToSelfTimedExactlyOnce := by
  intro s clks hhost hp hflag hN hclks
  have hlimit : waitLimit s.cfg s.pollState = s.cfg.nPollTimeout := by rw [hhost, waitLimit]
  cases clks with
  | nil => exact ⟨s, rfl, hflag, fun _ => hhost, fun h => absurd h (Nat.not_succ_le_zero _)⟩
  | cons i clks =>
    obtain ⟨hi, hrest⟩ := List.forall_mem_cons.mp hclks
    obtain ⟨m, sw, rfl⟩ := isClk_iff.mp hi
    obtain ⟨t, ht, hft, hbefore, hafter⟩ := runInstrs_clks_hostPolled_wait hrest (s := iterate m sw s)
      rfl hhost hflag (waitInRange_iterate (hlimit ▸ hN) m sw)
    rw [quantaLeft_iterate, hlimit] at hbefore hafter
    rw [runInstrs_cons_of_next (exec_clk_compute hp m sw), List.length_cons]
    exact ⟨t, ht, hft, hbefore, fun h => hafter (Nat.le_of_succ_le_succ h)⟩

/-- Settles O22: in COMPUTE no quantum is left of a wait. -/
theorem selfTimedIterationsFallOnAFixedPeriod : Obligations.SelfTimedIterationsFallOnAFixedPeriod := by
  intro s clks hself hp hflag hN hclks
  rw [iterations_clks_selfTimed hclks hself hflag hN (waitInRange_of_compute hp), quantaLeft_of_compute hp, Nat.sub_zero]

theorem waitLimit_le_waitMax (cfg : Params) (p : PollState) : waitLimit cfg p ≤ cfg.waitMax := by
  cases p with
  | selfTimed => exact le_max_right _ _
  | hostPolled => exact le_max_left _ _

theorem quantaLeft_le_waitMax (s : State) : quantaLeft s ≤ s.cfg.waitMax := by
  rcases fgPhase_cases s with hp | hp
  · rw [quantaLeft_of_compute hp]; exact Nat.zero_le _
  · rw [quantaLeft_of_wait hp]; exact (Nat.sub_le _ _).trans (waitLimit_le_waitMax _ _)

/-- Settles O23: the invariant holds every wait in range, and no wait lasts longer than the larger limit. -/
theorem foregroundNeverStalls : Obligations.ForegroundNeverStalls :=
  fun s _ hinv hes hlen =>
    one_le_iterations hes hinv.wait_below_limit ((Nat.lt_succ_of_le (quantaLeft_le_waitMax s)).trans_le hlen)

/-- Settles O24: `W_WAIT` is the length in bits of the larger limit, which is not 0. -/
theorem waitCounterFitsItsWidth : Obligations.WaitCounterFitsItsWidth := by
  intro s hinv
  obtain ⟨hpoll, -⟩ := hinv.params_ok
  have hpos : s.cfg.waitMax ≠ 0 := Nat.ne_of_gt (hpoll.trans (le_max_left _ _))
  exact ⟨hinv.wait_bounded.trans_lt Nat.lt_log2_self, fun w hw => (Nat.log2_lt hpos).mpr hw⟩

end Sys2Proof
end

section
/-! Proofs about TurboEngine (42_turbo_engine.md): TICK in an iteration, and the period of `phase` over a run (R66, R68). -/

namespace Sys2Proof.Machine

/-- The divisors, as R64 lists them. -/
theorem div_val_eq_getD (v : Fin 6) : (div v).val = [2, 2, 3, 3, 4, 4].getD v.val 0 := by
  revert v; decide

theorem one_le_div (v : Fin 6) : 1 ≤ (div v).val := by revert v; decide

/-- At 1 or 0 an iteration reloads the countdown for the speed it leaves and flips the phase (R66). -/
theorem iterate_tick_of_le_one {s : State} (h : s.countdown.val ≤ 1) (m : ButtonMask) (sw : Bool) :
    (iterate m sw s).countdown = div (iterate m sw s).speed ∧ (iterate m sw s).phase = !s.phase :=
  ⟨(iterate_countdown m sw s).trans (if_pos h), (iterate_phase m sw s).trans (if_pos h)⟩

/-- At 2 or more an iteration counts down and keeps the phase (R66). -/
theorem iterate_tick_of_two_le {s : State} (h : 2 ≤ s.countdown.val) (m : ButtonMask) (sw : Bool) :
    (iterate m sw s).countdown.val = s.countdown.val - 1 ∧ (iterate m sw s).phase = s.phase := by
  have hgt : ¬ s.countdown ≤ 1 := fun hle => absurd (h.trans hle) (by decide)
  rw [iterate_countdown, iterate_phase, if_neg hgt, if_neg hgt]
  exact ⟨Fin.val_sub_one_of_ne_zero fun h0 => by simp [h0] at h, rfl⟩

/-- The flips of a run from a countdown in range: one for every `DIV(speed)` iterations, counted from the last reload. -/
def flips (iterationCount : Nat) (s : State) : Nat :=
  (iterationCount + ((div s.speed).val - s.countdown.val)) / (div s.speed).val

/-- The iteration at countdown 1 makes a flip, and the count starts again. -/
theorem flips_succ_of_reload {s t : State} (hspeed : t.speed = s.speed) (h : s.countdown.val = 1)
    (ht : t.countdown = div t.speed) (k : Nat) : flips (1 + k) s = flips k t + 1 := by
  have hdiv := one_le_div s.speed
  rw [flips, flips, ht, hspeed, h, Nat.sub_self, Nat.add_zero, ← Nat.add_div_right _ hdiv]
  congr 1
  omega

/-- An iteration that counts down makes no flip. -/
theorem flips_succ_of_count {s t : State} (hspeed : t.speed = s.speed) (h : 2 ≤ s.countdown.val)
    (hle : s.countdown.val ≤ (div s.speed).val) (ht : t.countdown.val = s.countdown.val - 1) (k : Nat) :
    flips (1 + k) s = flips k t := by
  rw [flips, flips, ht, hspeed]
  congr 1
  omega

/-- A number of flips and one more, by parity. -/
theorem xor_decide_odd_succ (b : Bool) (n : Nat) : (b ^^ decide ((n + 1) % 2 = 1)) = (!b ^^ decide (n % 2 = 1)) := by
  rcases Nat.mod_two_eq_zero_or_one n with h | h <;> simp [Nat.add_mod, h]

/-- R68 from any countdown in range: the phase after a run without a speed edge has flipped once for every `DIV(speed)` iterations. -/
theorem phase_of_runInstrs {es : List Instr} (hes : ∀ i ∈ es, i.inSession = true) {s : State}
    (hedge : NoSpeedEdge es s) (hpos : 1 ≤ s.countdown.val) (hle : s.countdown.val ≤ (div s.speed).val) :
    ∃ t, runInstrs es s = .next t ∧ t.speed = s.speed ∧
      t.phase = (s.phase ^^ decide (flips (iterations es s) s % 2 = 1)) := by
  induction es generalizing s with
  | nil =>
    have hzero : flips 0 s = 0 := Nat.div_eq_of_lt (by omega)
    exact ⟨s, rfl, rfl, by simp [iterations, hzero]⟩
  | cons i es ih =>
    obtain ⟨hi, hrest⟩ := List.forall_mem_cons.mp hes
    obtain ⟨hno, hnext⟩ := hedge
    rcases exec_inSession_cases hi s with ⟨m, sw, rfl, hp, h⟩ | ⟨m, sw, rfl, hp, h⟩ | ⟨l, rfl, h⟩ <;>
      rw [runInstrs_cons_of_next h]
    · have hspeed : (iterate m sw s).speed = s.speed :=
        iterate_speed_of_not_speedEdge (by simpa [makesSpeedEdge, hp] using hno) sw
      rw [← hspeed, iterations_clk_compute hp]
      rcases (show s.countdown.val = 1 ∨ 2 ≤ s.countdown.val by omega) with hone | htwo
      · obtain ⟨hcount, hphase⟩ := iterate_tick_of_le_one hone.le m sw
        rw [flips_succ_of_reload hspeed hone hcount, xor_decide_odd_succ, ← hphase]
        exact ih hrest (hnext _ h) (hcount ▸ one_le_div _) (hcount ▸ le_rfl)
      · obtain ⟨hcount, hphase⟩ := iterate_tick_of_two_le htwo m sw
        rw [flips_succ_of_count hspeed htwo hle hcount, ← hphase]
        exact ih hrest (hnext _ h) (by omega) (by rw [hspeed]; omega)
    · have hflips : ∀ k, flips k s = flips k (waitStep s) := fun k => by
        rw [flips, flips, waitStep_speed, waitStep_countdown]
      rw [iterations_clk_wait hp, hflips, ← waitStep_speed s, ← waitStep_phase s]
      exact ih hrest (hnext _ h) ((waitStep_countdown s).symm ▸ hpos)
        (by rwa [waitStep_countdown, waitStep_speed])
    · rw [iterations_selEdge]
      exact ih hrest (s := driveNextSlot s) (hnext _ h) hpos hle

end Sys2Proof.Machine

namespace Sys2Proof

open Machine

/-- Settles O30: `CLK` in COMPUTE is an iteration, whose tick the old countdown decides. -/
theorem tickReloadsAndFlipsOrCountsDown : Obligations.TickReloadsAndFlipsOrCountsDown := by
  intro s m sw hc
  refine ⟨iterate m sw s, exec_clk_compute hc m sw, fun h => ?_, fun h => iterate_tick_of_two_le h m sw⟩
  obtain ⟨hcount, hphase⟩ := iterate_tick_of_le_one h m sw
  exact ⟨by rw [hcount, div_val_eq_getD], hphase⟩

/-- Settles O31, by induction on the events, from a countdown anywhere in its range. -/
theorem phaseFlipsOnceEveryDivisorIterations : Obligations.PhaseFlipsOnceEveryDivisorIterations := by
  intro s es hes hedge hcount
  have hreload : ∀ k, flips k s = k / (div s.speed).val := fun k => by rw [flips, hcount, Nat.sub_self, Nat.add_zero]
  rw [← hreload]
  exact phase_of_runInstrs hes hedge (hcount ▸ one_le_div _) (hcount ▸ le_rfl)

end Sys2Proof
end

section
/-! Proofs about ButtonMapper (41_button_mapper.md): what the fragments depend on, the speed edge, and the check of a `MAP`. -/

namespace Sys2Proof.Machine

/-! Fragments from their bits. -/

/-- Fragments with the same bits are the same. -/
theorem Fragments.eq_of_bits {f g : Fragments} (h : ∀ bit, Fragments.IsBit bit → bit f = bit g) : f = g := by
  obtain ⟨l, hi, x⟩ := f
  obtain ⟨l', hi', x'⟩ := g
  congr 1
  · exact BitVec.eq_of_getLsbD_eq fun j _ => h _ (Fragments.isBit_low j)
  · exact BitVec.eq_of_getLsbD_eq fun j _ => h _ (Fragments.isBit_high j)
  · exact BitVec.eq_of_getLsbD_eq fun j _ => h _ (Fragments.isBit_extra j)

theorem and_eq_left_of_getLsbD_imp {w : Nat} {x y : BitVec w}
    (h : ∀ j, x.getLsbD j = true → y.getLsbD j = true) : x &&& y = x := by
  refine BitVec.eq_of_getLsbD_eq fun j _ => ?_
  rw [BitVec.getLsbD_and]
  cases hx : x.getLsbD j with
  | false => rfl
  | true => rw [h j hx]; rfl

/-- The entries count as a set (R60). -/
theorem buildFragments_of_mem_iff {map map' : List MapEntry} (h : ∀ e, e ∈ map ↔ e ∈ map')
    (m : ButtonMask) (gate phase : Bool) : buildFragments m gate phase map = buildFragments m gate phase map' := by
  refine Fragments.eq_of_bits fun bit hbit => Bool.eq_iff_iff.mpr ?_
  rw [hbit.buildFragments_iff, hbit.buildFragments_iff]
  simp only [h]

/-- A fragment bit stays set where more buttons are pressed (R60). -/
theorem Fragments.IsBit.buildFragments_mono {bit : Fragments → Bool} (hbit : Fragments.IsBit bit)
    {m m' : ButtonMask} (hm : ∀ j, m.getLsbD j = true → m'.getLsbD j = true) {gate phase : Bool}
    {map : List MapEntry} (h : bit (buildFragments m gate phase map) = true) :
    bit (buildFragments m' gate phase map) = true := by
  rw [hbit.buildFragments_iff] at h ⊢
  obtain ⟨e, he, hpressed, hactive⟩ := h
  exact ⟨e, he, hm _ hpressed, hactive⟩

/-- Where no entry contributes the fragments are zero. -/
theorem buildFragments_eq_zero {m : ButtonMask} {gate phase : Bool} {map : List MapEntry}
    (h : ∀ e, contributes m gate phase e = false) : buildFragments m gate phase map = .zero := by
  rw [buildFragments_eq_orAll_filter, List.filter_eq_nil_iff.mpr fun e _ => by simp [h e]]
  rfl

/-- The shut gate lets no entry through (R59, R60). -/
theorem buildFragments_gate_shut (m : ButtonMask) (phase : Bool) (map : List MapEntry) :
    buildFragments m true phase map = .zero :=
  buildFragments_eq_zero fun e => by simp [contributes]

/-- No button, no fragment (R60). -/
theorem buildFragments_no_button (gate phase : Bool) (map : List MapEntry) :
    buildFragments 0 gate phase map = .zero :=
  buildFragments_eq_zero fun e => by simp [contributes, pressed]

/-! The extra bytes. -/

/-- The entry with its extra byte cleared. -/
def dropExtra (e : MapEntry) : MapEntry := { e with extra := 0 }

/-- Clearing the extra bytes of the map clears the extra fragment and nothing else. -/
theorem buildFragments_map_dropExtra (m : ButtonMask) (gate phase : Bool) (map : List MapEntry) :
    buildFragments m gate phase (map.map dropExtra) =
      { buildFragments m gate phase map with extra := 0 } := by
  rw [buildFragments, List.foldl_map]
  refine List.foldl_hom (fun f : Fragments => { f with extra := 0 }) (init := Fragments.zero) fun f e => ?_
  have hsame : contributes m gate phase (dropExtra e) = contributes m gate phase e := rfl
  rw [hsame]
  split
  · simp [Fragments.or, Fragments.ofEntry, dropExtra]
  · rfl

/-! The OR of a list of entries, byte by byte. -/

theorem orAll_cons (e : MapEntry) (es : List MapEntry) : orAll (e :: es) = (Fragments.ofEntry e).or (orAll es) := by
  refine Fragments.eq_of_bits fun bit hbit => ?_
  rw [hbit.or, hbit.orAll_eq_any, hbit.orAll_eq_any, List.any_cons]

theorem orAll_low (es : List MapEntry) : (orAll es).low = es.foldr (fun e x => e.low ||| x) 0 := by
  induction es with
  | nil => rfl
  | cons e es ih => rw [orAll_cons, List.foldr_cons, ← ih]; rfl

theorem orAll_high_eq_zero_iff (es : List MapEntry) : (orAll es).high = 0 ↔ ∀ e ∈ es, e.high = 0 := by
  induction es with
  | nil => simp [orAll, Fragments.zero]
  | cons e es ih =>
    rw [orAll_cons, List.forall_mem_cons, ← ih]
    exact BitVec.or_eq_zero_iff

theorem orAll_extra_eq_zero_iff (es : List MapEntry) : (orAll es).extra = 0 ↔ ∀ e ∈ es, e.extra = 0 := by
  induction es with
  | nil => simp [orAll, Fragments.zero]
  | cons e es ih =>
    rw [orAll_cons, List.forall_mem_cons, ← ih]
    exact BitVec.or_eq_zero_iff

/-- Entries OR to A's value: their low bytes to 0x02, and no other byte has a bit. -/
theorem orAll_eq_fragmentsOfA_iff (es : List MapEntry) : orAll es = fragmentsOfA ↔
    es.foldr (fun e x => e.low ||| x) 0 = (0x02 : Byte) ∧ ∀ e ∈ es, e.high = 0 ∧ e.extra = 0 := by
  have hparts : orAll es = fragmentsOfA ↔
      (orAll es).low = 0x02 ∧ (orAll es).high = 0 ∧ (orAll es).extra = 0 := by
    cases orAll es
    simp [fragmentsOfA]
  rw [hparts, orAll_low, orAll_high_eq_zero_iff, orAll_extra_eq_zero_iff, ← forall₂_and]

/-- The entries of A that are no Turbo entries. -/
abbrev nonTurboA (es : List MapEntry) : List MapEntry := es.filter fun e => decide (e.btn = 8 ∧ e.flag ≠ .turbo)

/-- The entries of A. -/
abbrev allA (es : List MapEntry) : List MapEntry := es.filter fun e => decide (e.btn = 8)

theorem mem_allA_of_mem_nonTurboA {es : List MapEntry} {e : MapEntry} (h : e ∈ nonTurboA es) : e ∈ allA es := by
  simp only [List.mem_filter, decide_eq_true_eq] at h ⊢
  exact ⟨h.1, h.2.1⟩

/-- The map check, spelled out (R58). -/
theorem mapOk_iff (es : List MapEntry) : mapOk es = true ↔
    (∀ e ∈ es, e.btn.toNat < 12) ∧ orAll (nonTurboA es) = fragmentsOfA ∧ orAll (allA es) = fragmentsOfA := by
  simp only [mapOk, Bool.and_eq_true, decide_eq_true_eq, List.all_eq_true, entry_ok_iff, and_assoc]

/-- Only A's entries contribute to the mask of A alone. -/
theorem pressed_A_alone (b : BitVec 4) : pressed 0x100#12 b = decide (b = 8#4) := by revert b; decide

/-- With the gate open, A alone gives the OR of A's entries, those without Turbo where the phase is false. -/
theorem buildFragments_A_alone (phase : Bool) (map : List MapEntry) :
    buildFragments 0x100 false phase map = orAll (if phase then allA map else nonTurboA map) := by
  rw [buildFragments_eq_orAll_filter]
  congr 1
  cases phase <;> exact List.filter_congr fun e _ => by simp [contributes, pressed_A_alone]

end Sys2Proof.Machine

namespace Sys2Proof

open Machine

/-- Settles O29: the definition's `any`, read as an existence. -/
theorem speedEdgeIsARiseOfASpeedButton : Obligations.SpeedEdgeIsARiseOfASpeedButton := by
  intro m prev map
  simp only [speedEdge, pressed, List.any_eq_true, Bool.and_eq_true, decide_eq_true_eq, Bool.not_eq_true', and_assoc]

/-- Settles O33: a permutation has the same entries. -/
theorem mapOrderHasNoEffect : Obligations.MapOrderHasNoEffect :=
  fun m _ gate phase _ _ hperm =>
    ⟨buildFragments_of_mem_iff (fun _ => hperm.mem_iff) m gate phase, hperm.any_eq⟩

/-- Settles O34: monotony of one bit, read in each of the three fragments. -/
theorem morePressedButtonsClearNoFragmentBit : Obligations.MorePressedButtonsClearNoFragmentBit := by
  intro m m' gate phase map hm
  have hmono : ∀ j, m.getLsbD j = true → m'.getLsbD j = true := fun j hj => by
    rw [← hm, BitVec.getLsbD_and, Bool.and_eq_true] at hj
    exact hj.2
  exact ⟨and_eq_left_of_getLsbD_imp fun j => (Fragments.isBit_low j).buildFragments_mono hmono,
    and_eq_left_of_getLsbD_imp fun j => (Fragments.isBit_high j).buildFragments_mono hmono,
    and_eq_left_of_getLsbD_imp fun j => (Fragments.isBit_extra j).buildFragments_mono hmono⟩

/-- Settles O35: at either phase the fragments are one of the two ORs that the map check fixes. -/
theorem buttonAScenarioUnderEveryWellFormedMap : Obligations.ButtonAScenarioUnderEveryWellFormedMap := by
  intro map phase hok
  obtain ⟨-, hnon, hall⟩ := (mapOk_iff map).mp hok
  have hfrag : buildFragments 0x100 false phase map = fragmentsOfA := by
    rw [buildFragments_A_alone]
    split
    · exact hall
    · exact hnon
  rw [hfrag]
  exact ⟨rfl, by decide⟩

/-- Settles O50: the map check, with each OR split into its bytes. -/
theorem sentinelInstallsAWellFormedMapOnly : Obligations.SentinelInstallsAWellFormedMapOnly := by
  intro s es hl
  have hcheck : mapOk es = true ↔ (∀ e ∈ es, e.btn.toNat < 12) ∧
      (nonTurboA es).foldr (fun e x => e.low ||| x) 0 = (0x02 : Byte) ∧
      (allA es).foldr (fun e x => e.low ||| x) 0 = (0x02 : Byte) ∧ ∀ e ∈ allA es, e.high = 0 ∧ e.extra = 0 := by
    rw [mapOk_iff, orAll_eq_fragmentsOfA_iff, orAll_eq_fragmentsOfA_iff]
    constructor
    · rintro ⟨hbtn, ⟨hnon, -⟩, hall, hzero⟩
      exact ⟨hbtn, hnon, hall, hzero⟩
    · rintro ⟨hbtn, hnon, hall, hzero⟩
      exact ⟨hbtn, ⟨hnon, fun e he => hzero e (mem_allA_of_mem_nonTurboA he)⟩, hall, hzero⟩
  exact ⟨fun hgood => exec_mapend_of_ok hl (hcheck.mpr hgood),
    fun hbad => exec_mapend_of_bad hl (Bool.eq_false_iff.mpr fun hok => hbad (hcheck.mp hok))⟩

end Sys2Proof
end

section
/-! Proofs about the iteration and its frame (47_foreground_sequencer.md, 43_frame_builder.md): what it writes and leaves, and the tables of its two modes. -/

namespace Sys2Proof.Machine

/-- The next state that a `CLK` in COMPUTE answers is the iteration's. -/
theorem eq_iterate_of_exec_clk {s t : State} {m : ButtonMask} {sw : Bool} (hc : s.fgPhase = .compute)
    (h : exec (.clk m sw) s = .next t) : t = iterate m sw s := by
  simpa [exec_clk_compute hc] using h.symm

/-- The fragments under a gate that was shut before the sample are zero: it stays shut, or no button is pressed (R59). -/
theorem iterate_read_of_gate {s : State} (h : s.ignoreGate = true) (m : ButtonMask) (sw : Bool) (i : Slot) :
    (iterate m sw s).table.read i = allReleased (iterate m sw s).mode i := by
  rw [iterate_read, iterate_ignoreGate, h, Bool.true_and, allReleased]
  by_cases hm : m = 0
  · rw [hm, buildFragments_no_button]
  · rw [decide_eq_true hm, buildFragments_gate_shut]

/-- An iteration that ends in S6 publishes the inverted S6 frame of the fragments it built (R70, R71). -/
theorem iterate_read_of_mode_s6 {m : ButtonMask} {sw : Bool} {s : State}
    (h : (iterate m sw s).mode = .s6) (i : Slot) :
    (iterate m sw s).table.read i =
      ~~~ (frameS6 (buildFragments m (iterate m sw s).ignoreGate s.phase s.map) i) := by
  rw [iterate_read, h]
  rfl

/-- The C3 frame reads no extra fragment (R69). -/
theorem frameC3_with_extra (f : Fragments) (x : Byte) (i : Slot) : frameC3 { f with extra := x } i = frameC3 f i := by
  rw [frameC3_eq_ite_even, frameC3_eq_ite_even]

end Sys2Proof.Machine

namespace Sys2Proof

open Machine

/-- Settles O25: the fields that an iteration writes, the gate's conjunction split by cases. -/
theorem iterationEffect : Obligations.IterationEffect := by
  intro s m sw hc
  refine ⟨iterate m sw s, exec_clk_compute hc m sw, rfl, rfl, ?_, ?_, rfl,
    fun i => iterate_read m sw s i, iterate_out m sw s, rfl, rfl⟩
  · rw [iterate_mode_eq_ite_poLatch]
    simp only [Bool.or_eq_true]
  · rw [iterate_ignoreGate]
    by_cases hm : m = 0
    · cases s.ignoreGate <;> simp [hm]
    · rw [decide_eq_true hm, Bool.and_true, if_neg fun h => hm h.2]

/-- Settles O26: each field of the frame is one the iteration does not write. -/
theorem iterationLeavesAllElse : Obligations.IterationLeavesAllElse := by
  intro s t m sw hc h
  obtain rfl := eq_iterate_of_exec_clk hc h
  exact ⟨rfl, rfl, rfl, fun hopt => by rw [iterate_out, hopt]; rfl, rfl, rfl, rfl, rfl, rfl⟩

/-- Settles O37: the S6 frame of the iteration's fragments, slot by slot. -/
theorem sixButtonTableFromTheFragments : Obligations.SixButtonTableFromTheFragments := by
  intro s t m sw hc h hmode
  obtain rfl := eq_iterate_of_exec_clk hc h
  have hread := iterate_read_of_mode_s6 hmode
  exact ⟨_, rfl, hread 0, hread 1, hread 2, hread 3, hread 4, hread 5, hread 6, hread 7⟩

/-- Settles O38: both maps are the same once the extra bytes are cleared, which no C3 slot reads. -/
theorem threeButtonTableNeverRevealsExtra : Obligations.ThreeButtonTableNeverRevealsExtra := by
  intro s t t' map' m sw hc hmap h h' hmode
  obtain rfl := eq_iterate_of_exec_clk hc h
  obtain rfl := eq_iterate_of_exec_clk (s := { s with map := map' }) hc h'
  have hmode' : (iterate m sw { s with map := map' }).mode = .c3 := hmode
  refine ⟨hmode', fun i => ?_⟩
  have hfrag : ∀ gate, { buildFragments m gate s.phase map' with extra := (0 : Byte) } =
      { buildFragments m gate s.phase s.map with extra := (0 : Byte) } := fun gate => by
    rw [← buildFragments_map_dropExtra, ← buildFragments_map_dropExtra]
    exact congrArg _ hmap
  rw [iterate_read_of_mode_c3 hmode, iterate_read_of_mode_c3 hmode',
    ← frameC3_with_extra _ 0, ← frameC3_with_extra (buildFragments m _ s.phase s.map) 0]
  exact congrArg (fun f => ~~~ (frameC3 f i)) (hfrag _)

/-- Settles O39: the shared slots one by one; the two others by what their frames read. -/
theorem framingsShareAPrefixAndSlotsReadTheirFragment : Obligations.FramingsShareAPrefixAndSlotsReadTheirFragment := by
  refine ⟨fun f i hi => ?_, fun f g h => congrArg (~~~ ·) h, fun f g h => congrArg (~~~ ·) h⟩
  have hslot : i = 0 ∨ i = 1 ∨ i = 2 ∨ i = 3 ∨ i = 4 := by revert i; decide
  rcases hslot with rfl | rfl | rfl | rfl | rfl <;> rfl

/-- Settles O41: a gate still shut after the sample was shut before it. -/
theorem shutGatePublishesTheAllReleasedTable : Obligations.ShutGatePublishesTheAllReleasedTable := by
  intro s t m sw hc h hgate
  obtain rfl := eq_iterate_of_exec_clk hc h
  rw [iterate_ignoreGate, Bool.and_eq_true] at hgate
  exact iterate_read_of_gate hgate.1 m sw

end Sys2Proof
end

section
/-! Proofs about a session: RESET, the edges and samples after it, and OUT (70_reset_and_hazards.md, 44_select_dispatcher.md, 46_mode_latch.md). -/

namespace Sys2Proof.Machine

/-- RESET leaves the reset state but for the configuration and the streams (R111). -/
theorem startSession_eq_reset_with (s : State) : startSession s =
    { State.reset with
      cfg := s.cfg, map := s.map, listing := s.listing, mapWords := s.mapWords, events := s.events } := by
  rw [startSession, ofSlots_tReset]
  rfl

/-- The state of the first sample: RESET and any edges write only the index, `OUT` and the flag of the new session. -/
theorem runInstrs_reset_edges {edges : List Instr} (h : ∀ i ∈ edges, i.isEdge = true) (s : State) :
    ∃ idx out polled, ∀ is, runInstrs (.reset :: (edges ++ is)) s =
      runInstrs is { startSession s with cycleIdx := idx, out := out, polled := polled } := by
  obtain ⟨idx, out, hrun⟩ := runInstrs_edges h (startSession s)
  exact ⟨idx, out, _, fun is =>
    (runInstrs_cons_of_next (exec_reset s) _).trans (runInstrs_append_of_next hrun is)⟩

/-- The first sample of a session takes the latch from its Mode bit, and so its mode (R88, R89). -/
theorem iterate_mode_of_firstSample {s : State} (h : s.firstSample = true) (m : ButtonMask) (sw : Bool) :
    (iterate m sw s).mode = if m.getLsbD 2 = true ∨ sw = true then .c3 else .s6 := by
  rw [iterate_mode, h, if_pos rfl]
  simp only [Bool.or_eq_true]

/-- After the first sample the latch has its value for the session, and forces C3 where it is set. -/
structure Latched (latch : Bool) (s : State) : Prop where
  sampled : s.firstSample = false
  poLatch_eq : s.poLatch = latch
  mode_eq : latch = true → s.mode = .c3

theorem latched_iterate_of_firstSample {s : State} (h : s.firstSample = true) (m : ButtonMask) (sw : Bool) :
    Latched (m.getLsbD 2) (iterate m sw s) where
  sampled := rfl
  poLatch_eq := by rw [iterate_poLatch, h, if_pos rfl]
  mode_eq := fun hm => by rw [iterate_mode_of_firstSample h, if_pos (.inl hm)]

/-- Every event of a session keeps the latch (R88). -/
theorem exec_inSession_latched {latch : Bool} (i : Instr) (s : State) (hi : i.inSession = true) (hs : Latched latch s) :
    ∃ t, exec i s = .next t ∧ Latched latch t := by
  obtain ⟨hsampled, hlatch, hmode⟩ := hs
  rcases exec_inSession_cases hi s with ⟨m, sw, -, -, h⟩ | ⟨m, sw, -, -, h⟩ | ⟨l, -, h⟩
  · have hkept : (iterate m sw s).poLatch = latch := by
      rw [iterate_poLatch, hsampled, if_neg Bool.false_ne_true, hlatch]
    exact ⟨_, h, rfl, hkept, fun hl => (iterate_mode_eq_c3_iff m sw s).mpr (.inl (hkept.trans hl))⟩
  · exact ⟨_, h, by rwa [waitStep_firstSample], by rwa [waitStep_poLatch], by rwa [waitStep_mode]⟩
  · exact ⟨_, h, hsampled, hlatch, hmode⟩

/-- The index after any events of a session: moved on by one for every edge, modulo 8 (R79). -/
theorem cycleIdx_of_runInstrs {es : List Instr} (hes : ∀ i ∈ es, i.inSession = true) (s : State) :
    ∃ t, runInstrs es s = .next t ∧ t.cycleIdx.val = (s.cycleIdx.val + es.countP Instr.isEdge) % 8 := by
  induction es generalizing s with
  | nil => exact ⟨s, rfl, (Nat.mod_eq_of_lt s.cycleIdx.isLt).symm⟩
  | cons i es ih =>
    obtain ⟨hi, hrest⟩ := List.forall_mem_cons.mp hes
    rcases exec_inSession_cases hi s with ⟨m, sw, rfl, -, h⟩ | ⟨m, sw, rfl, -, h⟩ | ⟨l, rfl, h⟩ <;>
      rw [runInstrs_cons_of_next h]
    · exact ih hrest (iterate m sw s)
    · rw [← waitStep_cycleIdx s]
      exact ih hrest (waitStep s)
    · obtain ⟨t, ht, hidx⟩ := ih hrest (driveNextSlot s)
      refine ⟨t, ht, ?_⟩
      rw [hidx, driveNextSlot_cycleIdx_val, List.countP_cons_of_pos rfl]
      omega

end Sys2Proof.Machine

namespace Sys2Proof

open Machine

/-- Settles O12: the dispatcher's step writes three registers. -/
theorem selEdgeLeavesAllElse : Obligations.SelEdgeLeavesAllElse := by
  intro s t level h
  obtain rfl : driveNextSlot s = t := by simpa [exec_selEdge] using h
  simp

/-- Settles O13: RESET puts the index at 0, and only edges move it. -/
theorem cycleIndexCountsEdgesModuloEight : Obligations.CycleIndexCountsEdgesModuloEight := by
  intro es s hes
  obtain ⟨t, ht, hidx⟩ := cycleIdx_of_runInstrs hes (startSession s)
  exact ⟨t, (runInstrs_cons_of_next (exec_reset s) es).trans ht, by rw [hidx]; simp⟩

/-- Settles O14: the two orders are the iteration after the edge and the edge after the iteration, which differ in `OUT` alone. -/
theorem edgeReadsOldTableBeforeAndNewTableAfterAPublish :
    Obligations.EdgeReadsOldTableBeforeAndNewTableAfterAPublish := by
  intro s level m sw hc hopt
  have hfirst : runInstrs [.selEdge level, .clk m sw] s = .next (iterate m sw (driveNextSlot s)) :=
    (runInstrs_cons_of_next (exec_selEdge level s) _).trans
      (runInstrs_singleton_of_next (exec_clk_compute (s := driveNextSlot s) hc m sw))
  have hsecond : runInstrs [.clk m sw, .selEdge level] s = .next (driveNextSlot (iterate m sw s)) :=
    (runInstrs_cons_of_next (exec_clk_compute hc m sw) _).trans (runInstrs_singleton_of_next (exec_selEdge level _))
  refine ⟨_, _, hfirst, hsecond, ?_, rfl, rfl⟩
  rw [iterate_out, driveNextSlot_cfg, hopt]
  rfl

/-- Settles O42: the first sample finds the gate shut and the session's first-sample mark set. -/
theorem firstTableOfASessionIsAllReleased : Obligations.FirstTableOfASessionIsAllReleased := by
  intro s edges m sw hedges
  obtain ⟨idx, out, polled, hrun⟩ := runInstrs_reset_edges hedges s
  rw [hrun]
  exact ⟨_, runInstrs_singleton_of_next (exec_clk_compute (by rfl) m sw), iterate_mode_of_firstSample rfl m sw,
    iterate_read_of_gate rfl m sw⟩

/-- Settles O43: the first sample latches, and every later event keeps the latch. -/
theorem powerOnLatchIsStickyForTheSession : Obligations.PowerOnLatchIsStickyForTheSession := by
  intro s edges es m sw hedges hes
  obtain ⟨idx, out, polled, hrun⟩ := runInstrs_reset_edges hedges s
  rw [hrun, runInstrs_cons_of_next (exec_clk_compute (by rfl) m sw)]
  have hfirst := latched_iterate_of_firstSample
    (s := { startSession s with cycleIdx := idx, out := out, polled := polled }) rfl m sw
  obtain ⟨t, ht, hsampled, hlatch, hmode⟩ := runInstrs_of_kept exec_inSession_latched hes hfirst
  exact ⟨t, ht, hlatch, hsampled, hmode⟩

/-- Settles O44: of all instructions only an edge, RESET and a refreshing publish write `OUT`. -/
theorem outChangesOnlyAtEdgesAndReset : Obligations.OutChangesOnlyAtEdgesAndReset := by
  intro i s t hopt h hne
  rcases exec_next_cases h with ⟨m, sw, -, -, rfl⟩ | ⟨m, sw, -, -, rfl⟩ | ⟨l, rfl, -⟩ | ⟨rfl, -⟩ |
    ⟨e, -, -, rfl⟩ | ⟨es, -, -, -, rfl⟩ | ⟨-, -, rfl⟩
  · exact absurd ((iterate_out m sw s).trans (if_neg (Bool.eq_false_iff.mp hopt))) hne
  · exact absurd (waitStep_out s) hne
  · exact .inl ⟨l, rfl⟩
  · exact .inr rfl
  all_goals exact absurd rfl hne

/-- Settles O45: the reset values, field by field. -/
theorem resetLeavesTheResetValues : Obligations.ResetLeavesTheResetValues := by
  intro s
  refine ⟨startSession s, exec_reset s, rfl, ?_, ?_⟩
  · rw [startSession_table]; rfl
  · simp

/-- Settles O46: RESET answers the session's first state. -/
theorem resetReachesTheResetState : Obligations.ResetReachesTheResetState :=
  fun s => (exec_reset s).trans (congrArg _ (startSession_eq_reset_with s))

/-- Settles O52: of all next states only that of a map word has another listing or `MAP`, and none has other parameters. -/
theorem eventsNeverWriteTheConfiguration : Obligations.EventsNeverWriteTheConfiguration := by
  constructor
  · intro i s t hi h
    rcases exec_next_cases h with ⟨m, sw, -, -, rfl⟩ | ⟨m, sw, -, -, rfl⟩ | ⟨l, -, rfl⟩ | ⟨-, rfl⟩ |
      ⟨e, rfl, -⟩ | ⟨es, rfl, -⟩ | ⟨-, -, rfl⟩
    · exact ⟨rfl, rfl⟩
    · exact ⟨waitStep_map s, waitStep_listing s⟩
    · exact ⟨rfl, rfl⟩
    · exact ⟨rfl, rfl⟩
    · exact absurd hi (Bool.eq_false_iff.mp (isEvent_ofEntry e))
    · exact absurd hi Bool.false_ne_true
    · exact ⟨rfl, rfl⟩
  · intro i s t h
    rcases exec_next_cases h with ⟨m, sw, -, -, rfl⟩ | ⟨m, sw, -, -, rfl⟩ | ⟨l, -, rfl⟩ | ⟨-, rfl⟩ |
      ⟨e, -, -, rfl⟩ | ⟨es, -, -, -, rfl⟩ | ⟨-, -, rfl⟩
    case inr.inl => exact waitStep_cfg s
    all_goals rfl

end Sys2Proof
end

section
/-! Proofs about the words of a listing (30_encoding.md section 3): each entry word is its entry added, and the sentinel. -/

namespace Sys2Proof

open Machine

/-- The three entry words answer alike, as one entry each. -/
theorem forall_entryWords {P : EntryFlag → Host.Outcome State Fault Refusal → Prop} {s : State} {b : BitVec 4}
    {low high extra : Byte} (h : ∀ flag, P flag (addEntry ⟨b, low, high, extra, flag⟩ s)) :
    P .plain (exec (.mapentNone b low high extra) s) ∧ P .turbo (exec (.mapentTurbo b low high extra) s) ∧
      P .speedSelect (exec (.mapentSpeedsel b low high extra) s) :=
  ⟨h .plain, h .turbo, h .speedSelect⟩

/-- Settles O47: an entry with a button is added at the end of the open listing. -/
theorem entryWordsExtendAnOpenListing : Obligations.EntryWordsExtendAnOpenListing := by
  intro s es b low high extra hl hb
  refine forall_entryWords
    (P := fun flag o => o = .next { s with listing := some (es ++ [⟨b, low, high, extra, flag⟩]) }) fun flag => ?_
  rw [addEntry_ok ((entry_ok_iff _).mpr hb), hl, Option.map_some]

/-- Settles O48: with no listing open there is none to extend and none to close. -/
theorem wordsAfterTheSentinelChangeNothing : Obligations.WordsAfterTheSentinelChangeNothing := by
  intro s b low high extra hl hb
  obtain ⟨hnone, hturbo, hspeed⟩ := forall_entryWords (s := s) (b := b) (low := low) (high := high) (extra := extra)
    (P := fun _ o => o = .next s) fun flag => by
      rw [addEntry_ok ((entry_ok_iff _).mpr hb), hl, Option.map_none, ← hl]
  exact ⟨hnone, hturbo, hspeed, by rw [exec, execMapend, hl]⟩

/-- Settles O49: an entry without a button is refused before the state is looked at. -/
theorem entryWordsWithoutAButtonAreRefused : Obligations.EntryWordsWithoutAButtonAreRefused := by
  intro s b low high extra hb
  exact forall_entryWords (P := fun _ o => o = .refused .badMapEntry) fun flag =>
    addEntry_bad (decide_eq_false (not_lt.mpr hb)) s

/-- Settles O51: of the next states, those of entries and sentinels differ from the state in the listing and `MAP` alone. -/
theorem mapWordsLeaveTheRecord : Obligations.MapWordsLeaveTheRecord := by
  intro i s t hi h
  rcases exec_next_cases h with ⟨m, sw, rfl, -⟩ | ⟨m, sw, rfl, -⟩ | ⟨l, rfl, -⟩ | ⟨rfl, -⟩ |
    ⟨e, -, -, rfl⟩ | ⟨es, rfl, -, -, rfl⟩ | ⟨-, -, rfl⟩
  · nomatch hi
  · nomatch hi
  · nomatch hi
  · nomatch hi
  · exact ⟨fun _ => rfl, fun _ => rfl, rfl⟩
  · exact ⟨fun _ => rfl, fun hne => absurd rfl hne, rfl⟩
  · exact ⟨fun _ => rfl, fun _ => rfl, rfl⟩

end Sys2Proof
end

section
/-! Proofs about the table space (20_memory.md section 1): the canonical form holds no more than what the slots read. -/

namespace Sys2Proof.Machine

theorem wf_iff (m : Memory) : m.wf = true ↔ m.Pairwise (fun a b => a.1 < b.1) ∧ ∀ c ∈ m, Memory.cellOk c = true := by
  simp only [Memory.wf, Bool.and_eq_true, decide_eq_true_eq, List.all_eq_true]

theorem cellOk_iff (c : Host.Cell) :
    Memory.cellOk c = true ↔ ∃ i : Slot, c.1 = i.val ∧ c.2 ≠ Config.tReset i := by
  unfold Memory.cellOk
  split
  · rename_i hlt
    rw [decide_eq_true_eq]
    refine ⟨fun h => ⟨⟨c.1, hlt⟩, rfl, h⟩, fun ⟨i, hi, h⟩ => ?_⟩
    rwa [show (⟨c.1, hlt⟩ : Slot) = i from Fin.ext hi]
  · rename_i hge
    exact iff_of_false Bool.false_ne_true fun ⟨i, hi, _⟩ => hge (hi ▸ i.isLt)

/-- A cell whose address rises above the others' is the one its address finds. -/
theorem lookup_of_mem {m : Memory} (hrise : m.Pairwise fun a b => a.1 < b.1) {c : Host.Cell} (hc : c ∈ m) :
    List.lookup c.1 m = some c.2 := by
  induction m with
  | nil => nomatch hc
  | cons d m ih =>
    obtain ⟨hd, hrest⟩ := List.pairwise_cons.mp hrise
    rw [List.lookup_cons]
    rcases List.mem_cons.mp hc with rfl | hc
    · simp
    · have hne : (c.1 == d.1) = false := beq_eq_false_iff_ne.mpr (hd c hc).ne'
      rw [hne]
      exact ih hrest hc

/-- What a lookup finds is listed. -/
theorem mem_of_lookup {m : Memory} {a : Nat} {b : Byte} (h : List.lookup a m = some b) : (a, b) ∈ m := by
  obtain ⟨l₁, l₂, rfl, -⟩ := List.lookup_eq_some_iff.mp h
  simp

/-- The cells of a canonical table are the slots that do not read as `T_RESET`, with what they read. -/
theorem mem_iff_read {m : Memory} (h : m.wf = true) (c : Host.Cell) :
    c ∈ m ↔ ∃ i : Slot, m.read i ≠ Config.tReset i ∧ c = (i.val, m.read i) := by
  obtain ⟨hrise, hok⟩ := (wf_iff m).mp h
  constructor
  · intro hc
    obtain ⟨i, hi, hne⟩ := (cellOk_iff c).mp (hok c hc)
    have hread : m.read i = c.2 := by rw [Memory.read, ← hi, lookup_of_mem hrise hc]; rfl
    exact ⟨i, hread ▸ hne, Prod.ext hi hread.symm⟩
  · rintro ⟨i, hne, rfl⟩
    cases hl : List.lookup i.val m with
    | none => exact absurd (show m.read i = _ by rw [Memory.read, hl]; rfl) hne
    | some b =>
      have hread : m.read i = b := by rw [Memory.read, hl]; rfl
      exact hread ▸ mem_of_lookup hl

end Sys2Proof.Machine

namespace Sys2Proof

open Machine

/-- Settles O53: both tables list the same cells, in the order of their addresses. -/
theorem tablesThatReadAlikeAreEqual : Obligations.TablesThatReadAlikeAreEqual := by
  intro m m' h h' hread
  have hirrefl : Std.Irrefl fun a b : Host.Cell => a.1 < b.1 := ⟨fun a => lt_irrefl a.1⟩
  have hantisymm : Std.Antisymm fun a b : Host.Cell => a.1 < b.1 := ⟨fun _ _ hab hba => absurd hab hba.asymm⟩
  refine ((wf_iff m).mp h).1.eq_of_mem_iff ((wf_iff m').mp h').1 fun c => ?_
  rw [mem_iff_read h, mem_iff_read h']
  simp only [hread]

end Sys2Proof
end

section
/-! Proofs about the invariant: every meaning keeps it, and so every step (10_state.md). -/

namespace Sys2Proof.Machine

theorem one_le_waitLimit {cfg : Params} (h : cfg.ok) (p : PollState) : 1 ≤ waitLimit cfg p := by
  cases p with
  | selfTimed => exact h.2
  | hostPolled => exact h.1

/-- An iteration publishes a framed table in its mode and opens a new wait. -/
theorem iterate_inv {s : State} (h : Inv s) (m : ButtonMask) (sw : Bool) : Inv (iterate m sw s) where
  params_ok := h.params_ok
  map_ok := h.map_ok
  listing_ok := h.listing_ok
  table_wf := iterate_wf m sw s
  table_framed := ⟨_, iterate_read m sw s⟩
  wait_below_limit := waitInRange_iterate (one_le_waitLimit h.params_ok _) m sw
  wait_bounded := Nat.zero_le _
  latch_forces_compat := fun hlatch => (iterate_mode_eq_c3_iff m sw s).mpr (.inl hlatch)
  first_sample_fresh := nofun
  refreshed_out := fun hopt => (iterate_out m sw s).trans (if_pos hopt)

/-- A wait quantum counts below the limit of its wait or ends it. -/
theorem waitStep_inv {s : State} (h : Inv s) (hwait : s.fgPhase = .wait) : Inv (waitStep s) where
  params_ok := by rw [waitStep_cfg]; exact h.params_ok
  map_ok := by rw [waitStep_map]; exact h.map_ok
  listing_ok := by rw [waitStep_listing]; exact h.listing_ok
  table_wf := by rw [waitStep_table]; exact h.table_wf
  table_framed := by rw [waitStep_table, waitStep_mode]; exact h.table_framed
  wait_below_limit := (waitStep_progress hwait h.wait_below_limit).1
  wait_bounded := by
    have hnext : s.waitCtr + 1 ≤ s.cfg.waitMax := (h.wait_below_limit hwait).trans_le (waitLimit_le_waitMax _ _)
    rcases waitStep_cases s with ⟨-, hs⟩ | ⟨-, -, hs⟩ | ⟨-, -, hs⟩ <;> rw [hs]
    · exact h.wait_bounded
    · exact hnext
    · exact hnext
  latch_forces_compat := by rw [waitStep_poLatch, waitStep_mode]; exact h.latch_forces_compat
  first_sample_fresh := by
    rw [waitStep_firstSample]
    exact fun hfirst => absurd ((h.first_sample_fresh hfirst).1.symm.trans hwait) (by decide)
  refreshed_out := by
    rw [waitStep_cfg, waitStep_out, waitStep_table, waitStep_cycleIdx]; exact h.refreshed_out

/-- An edge drives the slot of the index it leaves. -/
theorem driveNextSlot_inv {s : State} (h : Inv s) : Inv (driveNextSlot s) :=
  { h with refreshed_out := fun _ => driveNextSlot_out_eq_read_cycleIdx s }

/-- RESET needs of the state before only its configuration. -/
theorem startSession_inv {s : State} (hparams : s.cfg.ok) (hmap : mapOk s.map = true)
    (hlisting : ∀ es, s.listing = some es → es.all MapEntry.ok = true) : Inv (startSession s) where
  params_ok := hparams
  map_ok := hmap
  listing_ok := hlisting
  table_wf := ofSlots_wf Config.tReset
  table_framed := ⟨.zero, fun i => tReset_eq_build i⟩
  wait_below_limit := nofun
  wait_bounded := Nat.zero_le _
  latch_forces_compat := fun _ => rfl
  first_sample_fresh := fun _ => ⟨rfl, rfl, rfl, rfl⟩
  refreshed_out := fun _ => rfl

/-- An entry that is added has a button (R49). -/
theorem Inv.with_entry {s : State} (h : Inv s) {e : MapEntry} (he : e.ok = true) :
    Inv { s with listing := s.listing.map fun es => es ++ [e] } :=
  { h with
    listing_ok := fun es hes => by
      obtain ⟨es', hes', rfl⟩ := Option.map_eq_some_iff.mp hes
      rw [List.all_append, h.listing_ok es' hes', List.all_cons, he]
      rfl }

/-- A listing that passes the check is a map in force. -/
theorem Inv.with_map {s : State} (h : Inv s) {es : List MapEntry} (hes : mapOk es = true) :
    Inv { s with map := es, listing := none } :=
  { h with map_ok := hes, listing_ok := nofun }

/-- Every instruction that answers a next state keeps the invariant. -/
theorem exec_inv {i : Instr} {s t : State} (h : Inv s) (hexec : exec i s = .next t) : Inv t := by
  rcases exec_next_cases hexec with ⟨m, sw, -, -, rfl⟩ | ⟨m, sw, -, hwait, rfl⟩ | ⟨l, -, rfl⟩ | ⟨-, rfl⟩ |
    ⟨e, -, he, rfl⟩ | ⟨es, -, -, hes, rfl⟩ | ⟨-, -, rfl⟩
  · exact iterate_inv h m sw
  · exact waitStep_inv h hwait
  · exact driveNextSlot_inv h
  · exact startSession_inv h.params_ok h.map_ok h.listing_ok
  · exact h.with_entry he
  · exact h.with_map hes
  · exact h

end Sys2Proof.Machine

namespace Sys2Proof

open Machine

/-- Settles O55: taking a word leaves every register, and its instruction keeps the invariant. -/
theorem everyStepKeepsTheInvariant : Obligations.EveryStepKeepsTheInvariant := by
  intro s t h hstep
  rcases step_next_cases hstep with rfl | ⟨w, ws, i, -, -, -, hexec⟩ | ⟨es, w, ws, i, -, -, -, hexec⟩
  · exact h
  · exact exec_inv (s := { s with events := ws }) { h with } hexec
  · exact exec_inv (s := { s with mapWords := ws }) { h with } hexec

/-- Settles O54: the reset state is a session's first state, under a configuration that passes both checks. -/
theorem resetStateMeetsTheInvariant : Obligations.ResetStateMeetsTheInvariant := by
  have hreset : startSession State.reset = State.reset := startSession_eq_reset_with State.reset
  have hinv : Inv (startSession State.reset) := startSession_inv (by decide) (by decide) nofun
  rwa [hreset] at hinv

end Sys2Proof
end
